-- ==== Sys2Proof/Word.lean ====
section
/-! DEFINITION. The two word types of the machine (00_scope.md R9: `u8` and `u16`). -/

namespace Sys2Proof

/-- `u8`: a register, a memory byte, an opcode byte (00_scope.md R9). -/
abbrev Byte := BitVec 8

/-- `u16`: SP, PC, a register pair, an address (00_scope.md R9). -/
abbrev Word := BitVec 16

end Sys2Proof
end

