-- ==== Sys2Proof/Syntax.lean ====
section
/-! DEFINITION. The instruction set: one constructor of `Instr` for each mnemonic of
spec/opcode_table.json, and the operand types the table's families range over.

An `Instr` is the spec's Instruction: a decode-time tag with the addressing modes of its operands
(00_scope.md section 5; 10_state.md R41). The bytes of an immediate are no part of it: the executor
reads them at PC+1 and PC+2 (30_encoding.md R90, R109). Log entry 7. -/

namespace Sys2Proof

/-- The seven 8-bit registers (10_state.md R31), in the order of the r8 field (30_encoding.md R94). -/
inductive Reg8 where
  | b | c | d | e | h | l | a
  deriving DecidableEq, Repr

/-- The locations `loc8(i)` of an r8 field, in its order: 6 is the memory byte at HL
(00_scope.md R15; 30_encoding.md R94). -/
inductive Loc8 where
  | b | c | d | e | h | l | indHl | a
  deriving DecidableEq, Repr

/-- The r16 field, in its order (30_encoding.md R95). -/
inductive Pair where
  | bc | de | hl | sp
  deriving DecidableEq, Repr

/-- The r16stk field, in its order (30_encoding.md R96). -/
inductive StkPair where
  | bc | de | hl | af
  deriving DecidableEq, Repr

/-- The r16mem field, in its order: (BC), (DE), (HL+), (HL-) (30_encoding.md R97). -/
inductive MemMode where
  | bc | de | hli | hld
  deriving DecidableEq, Repr

/-- The cc field, in its order (30_encoding.md R98). -/
inductive Cond where
  | nz | z | nc | c
  deriving DecidableEq, Repr

/-- The alu field, in its order (30_encoding.md R99). -/
inductive AluOp where
  | add | adc | sub | sbc | and | xor | or | cp
  deriving DecidableEq, Repr

/-- The second operand of an accumulator operation: a register, (HL), or n8 (40_alu8.md R130). -/
inductive AluSrc where
  | reg (r : Reg8)
  | indHl
  | n8
  deriving DecidableEq, Repr

/-- The operations of CB group 00, in the order of the `bbb` field (30_encoding.md R101). -/
inductive RotOp where
  | rlc | rrc | rl | rr | sla | sra | swap | srl
  deriving DecidableEq, Repr

/-- The four unprefixed accumulator rotates (42_rotate_shift.md R190 to R193). -/
inductive AccRot where
  | rlca | rrca | rla | rra
  deriving DecidableEq, Repr

/-- An entry of the CB-prefixed table (30_encoding.md R101, R105). -/
inductive CbOp where
  | rot (op : RotOp) (x : Loc8)
  | bit (n : BitVec 3) (x : Loc8)
  | res (n : BitVec 3) (x : Loc8)
  | set (n : BitVec 3) (x : Loc8)
  deriving DecidableEq, Repr

/-- The eight instruction formats (30_encoding.md R92). -/
inductive Format where
  | op | opN8 | opE8 | opA8 | opN16 | opA16 | cb | stop
  deriving DecidableEq, Repr

/-- The instruction set. Each constructor is a row of the opcode table, named after its mnemonic:
`Ind…` stands for the parentheses of a memory operand, `Hli` and `Hld` for (HL+) and (HL-). The rows with
operands stand first. -/
inductive Instr where
  /-- The eleven plain opcodes with no table entry, `op` being the byte (R106, R371). Log entry 5. -/
  | noTableEntry (op : Byte)
  /-- RLC r (R195). -/
  | rlcR (x : Loc8)
  /-- RRC r (R196). -/
  | rrcR (x : Loc8)
  /-- RL r (R197). -/
  | rlR (x : Loc8)
  /-- RR r (R198). -/
  | rrR (x : Loc8)
  /-- SLA r (R199). -/
  | slaR (x : Loc8)
  /-- SRA r (R200). -/
  | sraR (x : Loc8)
  /-- SWAP r (R201). -/
  | swapR (x : Loc8)
  /-- SRL r (R202). -/
  | srlR (x : Loc8)
  /-- BIT b,r (R220). -/
  | bitBR (n : BitVec 3) (x : Loc8)
  /-- RES b,r (R221). -/
  | resBR (n : BitVec 3) (x : Loc8)
  /-- SET b,r (R222). -/
  | setBR (n : BitVec 3) (x : Loc8)
  /-- NOP (R340). -/
  | nop
  /-- LD BC,n16 (R287). -/
  | ldBcN16
  /-- LD (BC),A (R275). -/
  | ldIndBcA
  /-- INC BC (R171). -/
  | incBc
  /-- INC B (R139). -/
  | incB
  /-- DEC B (R140). -/
  | decB
  /-- LD B,n8 (R273). -/
  | ldBN8
  /-- RLCA (R190). -/
  | rlca
  /-- LD (a16),SP (R288). -/
  | ldIndA16Sp
  /-- ADD HL,BC (R170). -/
  | addHlBc
  /-- LD A,(BC) (R276). -/
  | ldAIndBc
  /-- DEC BC (R172). -/
  | decBc
  /-- INC C (R139). -/
  | incC
  /-- DEC C (R140). -/
  | decC
  /-- LD C,n8 (R273). -/
  | ldCN8
  /-- RRCA (R191). -/
  | rrca
  /-- STOP (R342). -/
  | stop
  /-- LD DE,n16 (R287). -/
  | ldDeN16
  /-- LD (DE),A (R275). -/
  | ldIndDeA
  /-- INC DE (R171). -/
  | incDe
  /-- INC D (R139). -/
  | incD
  /-- DEC D (R140). -/
  | decD
  /-- LD D,n8 (R273). -/
  | ldDN8
  /-- RLA (R192). -/
  | rla
  /-- JR e8 (R244). -/
  | jrE8
  /-- ADD HL,DE (R170). -/
  | addHlDe
  /-- LD A,(DE) (R276). -/
  | ldAIndDe
  /-- DEC DE (R172). -/
  | decDe
  /-- INC E (R139). -/
  | incE
  /-- DEC E (R140). -/
  | decE
  /-- LD E,n8 (R273). -/
  | ldEN8
  /-- RRA (R193). -/
  | rra
  /-- JR NZ,e8 (R245). -/
  | jrNzE8
  /-- LD HL,n16 (R287). -/
  | ldHlN16
  /-- LD (HL+),A (R277). -/
  | ldIndHliA
  /-- INC HL (R171). -/
  | incHl
  /-- INC H (R139). -/
  | incH
  /-- DEC H (R140). -/
  | decH
  /-- LD H,n8 (R273). -/
  | ldHN8
  /-- DAA (R141). -/
  | daa
  /-- JR Z,e8 (R245). -/
  | jrZE8
  /-- ADD HL,HL (R170). -/
  | addHlHl
  /-- LD A,(HL+) (R278). -/
  | ldAIndHli
  /-- DEC HL (R172). -/
  | decHl
  /-- INC L (R139). -/
  | incL
  /-- DEC L (R140). -/
  | decL
  /-- LD L,n8 (R273). -/
  | ldLN8
  /-- CPL (R142). -/
  | cpl
  /-- JR NC,e8 (R245). -/
  | jrNcE8
  /-- LD SP,n16 (R287). -/
  | ldSpN16
  /-- LD (HL-),A (R279). -/
  | ldIndHldA
  /-- INC SP (R171). -/
  | incSp
  /-- INC (HL) (R139). -/
  | incIndHl
  /-- DEC (HL) (R140). -/
  | decIndHl
  /-- LD (HL),n8 (R274). -/
  | ldIndHlN8
  /-- SCF (R143). -/
  | scf
  /-- JR C,e8 (R245). -/
  | jrCE8
  /-- ADD HL,SP (R170). -/
  | addHlSp
  /-- LD A,(HL-) (R280). -/
  | ldAIndHld
  /-- DEC SP (R172). -/
  | decSp
  /-- INC A (R139). -/
  | incA
  /-- DEC A (R140). -/
  | decA
  /-- LD A,n8 (R273). -/
  | ldAN8
  /-- CCF (R144). -/
  | ccf
  /-- LD B,B (R270). -/
  | ldBB
  /-- LD B,C (R270). -/
  | ldBC
  /-- LD B,D (R270). -/
  | ldBD
  /-- LD B,E (R270). -/
  | ldBE
  /-- LD B,H (R270). -/
  | ldBH
  /-- LD B,L (R270). -/
  | ldBL
  /-- LD B,(HL) (R271). -/
  | ldBIndHl
  /-- LD B,A (R270). -/
  | ldBA
  /-- LD C,B (R270). -/
  | ldCB
  /-- LD C,C (R270). -/
  | ldCC
  /-- LD C,D (R270). -/
  | ldCD
  /-- LD C,E (R270). -/
  | ldCE
  /-- LD C,H (R270). -/
  | ldCH
  /-- LD C,L (R270). -/
  | ldCL
  /-- LD C,(HL) (R271). -/
  | ldCIndHl
  /-- LD C,A (R270). -/
  | ldCA
  /-- LD D,B (R270). -/
  | ldDB
  /-- LD D,C (R270). -/
  | ldDC
  /-- LD D,D (R270). -/
  | ldDD
  /-- LD D,E (R270). -/
  | ldDE
  /-- LD D,H (R270). -/
  | ldDH
  /-- LD D,L (R270). -/
  | ldDL
  /-- LD D,(HL) (R271). -/
  | ldDIndHl
  /-- LD D,A (R270). -/
  | ldDA
  /-- LD E,B (R270). -/
  | ldEB
  /-- LD E,C (R270). -/
  | ldEC
  /-- LD E,D (R270). -/
  | ldED
  /-- LD E,E (R270). -/
  | ldEE
  /-- LD E,H (R270). -/
  | ldEH
  /-- LD E,L (R270). -/
  | ldEL
  /-- LD E,(HL) (R271). -/
  | ldEIndHl
  /-- LD E,A (R270). -/
  | ldEA
  /-- LD H,B (R270). -/
  | ldHB
  /-- LD H,C (R270). -/
  | ldHC
  /-- LD H,D (R270). -/
  | ldHD
  /-- LD H,E (R270). -/
  | ldHE
  /-- LD H,H (R270). -/
  | ldHH
  /-- LD H,L (R270). -/
  | ldHL
  /-- LD H,(HL) (R271). -/
  | ldHIndHl
  /-- LD H,A (R270). -/
  | ldHA
  /-- LD L,B (R270). -/
  | ldLB
  /-- LD L,C (R270). -/
  | ldLC
  /-- LD L,D (R270). -/
  | ldLD
  /-- LD L,E (R270). -/
  | ldLE
  /-- LD L,H (R270). -/
  | ldLH
  /-- LD L,L (R270). -/
  | ldLL
  /-- LD L,(HL) (R271). -/
  | ldLIndHl
  /-- LD L,A (R270). -/
  | ldLA
  /-- LD (HL),B (R272). -/
  | ldIndHlB
  /-- LD (HL),C (R272). -/
  | ldIndHlC
  /-- LD (HL),D (R272). -/
  | ldIndHlD
  /-- LD (HL),E (R272). -/
  | ldIndHlE
  /-- LD (HL),H (R272). -/
  | ldIndHlH
  /-- LD (HL),L (R272). -/
  | ldIndHlL
  /-- HALT (R341). -/
  | halt
  /-- LD (HL),A (R272). -/
  | ldIndHlA
  /-- LD A,B (R270). -/
  | ldAB
  /-- LD A,C (R270). -/
  | ldAC
  /-- LD A,D (R270). -/
  | ldAD
  /-- LD A,E (R270). -/
  | ldAE
  /-- LD A,H (R270). -/
  | ldAH
  /-- LD A,L (R270). -/
  | ldAL
  /-- LD A,(HL) (R271). -/
  | ldAIndHl
  /-- LD A,A (R270). -/
  | ldAA
  /-- ADD A,B (R131). -/
  | addAB
  /-- ADD A,C (R131). -/
  | addAC
  /-- ADD A,D (R131). -/
  | addAD
  /-- ADD A,E (R131). -/
  | addAE
  /-- ADD A,H (R131). -/
  | addAH
  /-- ADD A,L (R131). -/
  | addAL
  /-- ADD A,(HL) (R131). -/
  | addAIndHl
  /-- ADD A,A (R131). -/
  | addAA
  /-- ADC A,B (R132). -/
  | adcAB
  /-- ADC A,C (R132). -/
  | adcAC
  /-- ADC A,D (R132). -/
  | adcAD
  /-- ADC A,E (R132). -/
  | adcAE
  /-- ADC A,H (R132). -/
  | adcAH
  /-- ADC A,L (R132). -/
  | adcAL
  /-- ADC A,(HL) (R132). -/
  | adcAIndHl
  /-- ADC A,A (R132). -/
  | adcAA
  /-- SUB A,B (R133). -/
  | subAB
  /-- SUB A,C (R133). -/
  | subAC
  /-- SUB A,D (R133). -/
  | subAD
  /-- SUB A,E (R133). -/
  | subAE
  /-- SUB A,H (R133). -/
  | subAH
  /-- SUB A,L (R133). -/
  | subAL
  /-- SUB A,(HL) (R133). -/
  | subAIndHl
  /-- SUB A,A (R133). -/
  | subAA
  /-- SBC A,B (R134). -/
  | sbcAB
  /-- SBC A,C (R134). -/
  | sbcAC
  /-- SBC A,D (R134). -/
  | sbcAD
  /-- SBC A,E (R134). -/
  | sbcAE
  /-- SBC A,H (R134). -/
  | sbcAH
  /-- SBC A,L (R134). -/
  | sbcAL
  /-- SBC A,(HL) (R134). -/
  | sbcAIndHl
  /-- SBC A,A (R134). -/
  | sbcAA
  /-- AND A,B (R135). -/
  | andAB
  /-- AND A,C (R135). -/
  | andAC
  /-- AND A,D (R135). -/
  | andAD
  /-- AND A,E (R135). -/
  | andAE
  /-- AND A,H (R135). -/
  | andAH
  /-- AND A,L (R135). -/
  | andAL
  /-- AND A,(HL) (R135). -/
  | andAIndHl
  /-- AND A,A (R135). -/
  | andAA
  /-- XOR A,B (R136). -/
  | xorAB
  /-- XOR A,C (R136). -/
  | xorAC
  /-- XOR A,D (R136). -/
  | xorAD
  /-- XOR A,E (R136). -/
  | xorAE
  /-- XOR A,H (R136). -/
  | xorAH
  /-- XOR A,L (R136). -/
  | xorAL
  /-- XOR A,(HL) (R136). -/
  | xorAIndHl
  /-- XOR A,A (R136). -/
  | xorAA
  /-- OR A,B (R137). -/
  | orAB
  /-- OR A,C (R137). -/
  | orAC
  /-- OR A,D (R137). -/
  | orAD
  /-- OR A,E (R137). -/
  | orAE
  /-- OR A,H (R137). -/
  | orAH
  /-- OR A,L (R137). -/
  | orAL
  /-- OR A,(HL) (R137). -/
  | orAIndHl
  /-- OR A,A (R137). -/
  | orAA
  /-- CP A,B (R138). -/
  | cpAB
  /-- CP A,C (R138). -/
  | cpAC
  /-- CP A,D (R138). -/
  | cpAD
  /-- CP A,E (R138). -/
  | cpAE
  /-- CP A,H (R138). -/
  | cpAH
  /-- CP A,L (R138). -/
  | cpAL
  /-- CP A,(HL) (R138). -/
  | cpAIndHl
  /-- CP A,A (R138). -/
  | cpAA
  /-- RET NZ (R249). -/
  | retNz
  /-- POP BC (R255). -/
  | popBc
  /-- JP NZ,a16 (R242). -/
  | jpNzA16
  /-- JP a16 (R241). -/
  | jpA16
  /-- CALL NZ,a16 (R247). -/
  | callNzA16
  /-- PUSH BC (R254). -/
  | pushBc
  /-- ADD A,n8 (R131). -/
  | addAN8
  /-- RST $00 (R251). -/
  | rst00
  /-- RET Z (R249). -/
  | retZ
  /-- RET (R248). -/
  | ret
  /-- JP Z,a16 (R242). -/
  | jpZA16
  /-- The cell 0xCB of the plain table: the prefix of the CB table (R104, R105). Log entry 4. -/
  | prefixCb
  /-- CALL Z,a16 (R247). -/
  | callZA16
  /-- CALL a16 (R246). -/
  | callA16
  /-- ADC A,n8 (R132). -/
  | adcAN8
  /-- RST $08 (R251). -/
  | rst08
  /-- RET NC (R249). -/
  | retNc
  /-- POP DE (R255). -/
  | popDe
  /-- JP NC,a16 (R242). -/
  | jpNcA16
  /-- CALL NC,a16 (R247). -/
  | callNcA16
  /-- PUSH DE (R254). -/
  | pushDe
  /-- SUB A,n8 (R133). -/
  | subAN8
  /-- RST $10 (R251). -/
  | rst10
  /-- RET C (R249). -/
  | retC
  /-- RETI (R250). -/
  | reti
  /-- JP C,a16 (R242). -/
  | jpCA16
  /-- CALL C,a16 (R247). -/
  | callCA16
  /-- SBC A,n8 (R134). -/
  | sbcAN8
  /-- RST $18 (R251). -/
  | rst18
  /-- LDH (a8),A (R283). -/
  | ldhIndA8A
  /-- POP HL (R255). -/
  | popHl
  /-- LD (C),A (R285). -/
  | ldIndCA
  /-- PUSH HL (R254). -/
  | pushHl
  /-- AND A,n8 (R135). -/
  | andAN8
  /-- RST $20 (R251). -/
  | rst20
  /-- ADD SP,e8 (R173). -/
  | addSpE8
  /-- JP HL (R243). -/
  | jpHl
  /-- LD (a16),A (R281). -/
  | ldIndA16A
  /-- XOR A,n8 (R136). -/
  | xorAN8
  /-- RST $28 (R251). -/
  | rst28
  /-- LDH A,(a8) (R284). -/
  | ldhAIndA8
  /-- POP AF (R255). -/
  | popAf
  /-- LD A,(C) (R286). -/
  | ldAIndC
  /-- DI (R343). -/
  | di
  /-- PUSH AF (R254). -/
  | pushAf
  /-- OR A,n8 (R137). -/
  | orAN8
  /-- RST $30 (R251). -/
  | rst30
  /-- LD HL,SP+e8 (R174). -/
  | ldHlSpE8
  /-- LD SP,HL (R289). -/
  | ldSpHl
  /-- LD A,(a16) (R282). -/
  | ldAIndA16
  /-- EI (R344). -/
  | ei
  /-- CP A,n8 (R138). -/
  | cpAN8
  /-- RST $38 (R251). -/
  | rst38
  deriving DecidableEq, Repr

/-! The families of the table: the instruction of each choice of operands. -/

namespace Instr

/-- LD r,r' (45_load.md R270). -/
def ldOf : Reg8 → Reg8 → Instr
  | .b, .b => .ldBB
  | .b, .c => .ldBC
  | .b, .d => .ldBD
  | .b, .e => .ldBE
  | .b, .h => .ldBH
  | .b, .l => .ldBL
  | .b, .a => .ldBA
  | .c, .b => .ldCB
  | .c, .c => .ldCC
  | .c, .d => .ldCD
  | .c, .e => .ldCE
  | .c, .h => .ldCH
  | .c, .l => .ldCL
  | .c, .a => .ldCA
  | .d, .b => .ldDB
  | .d, .c => .ldDC
  | .d, .d => .ldDD
  | .d, .e => .ldDE
  | .d, .h => .ldDH
  | .d, .l => .ldDL
  | .d, .a => .ldDA
  | .e, .b => .ldEB
  | .e, .c => .ldEC
  | .e, .d => .ldED
  | .e, .e => .ldEE
  | .e, .h => .ldEH
  | .e, .l => .ldEL
  | .e, .a => .ldEA
  | .h, .b => .ldHB
  | .h, .c => .ldHC
  | .h, .d => .ldHD
  | .h, .e => .ldHE
  | .h, .h => .ldHH
  | .h, .l => .ldHL
  | .h, .a => .ldHA
  | .l, .b => .ldLB
  | .l, .c => .ldLC
  | .l, .d => .ldLD
  | .l, .e => .ldLE
  | .l, .h => .ldLH
  | .l, .l => .ldLL
  | .l, .a => .ldLA
  | .a, .b => .ldAB
  | .a, .c => .ldAC
  | .a, .d => .ldAD
  | .a, .e => .ldAE
  | .a, .h => .ldAH
  | .a, .l => .ldAL
  | .a, .a => .ldAA

/-- LD r,(HL) (45_load.md R271). -/
def ldIndHlOf : Reg8 → Instr
  | .b => .ldBIndHl
  | .c => .ldCIndHl
  | .d => .ldDIndHl
  | .e => .ldEIndHl
  | .h => .ldHIndHl
  | .l => .ldLIndHl
  | .a => .ldAIndHl

/-- LD (HL),r (45_load.md R272). -/
def stIndHlOf : Reg8 → Instr
  | .b => .ldIndHlB
  | .c => .ldIndHlC
  | .d => .ldIndHlD
  | .e => .ldIndHlE
  | .h => .ldIndHlH
  | .l => .ldIndHlL
  | .a => .ldIndHlA

/-- LD r,n8 (45_load.md R273). -/
def ldN8Of : Reg8 → Instr
  | .b => .ldBN8
  | .c => .ldCN8
  | .d => .ldDN8
  | .e => .ldEN8
  | .h => .ldHN8
  | .l => .ldLN8
  | .a => .ldAN8

/-- LD (BC),A, LD (DE),A, LD (HL+),A, LD (HL-),A (45_load.md R275, R277, R279). -/
def stMemOf : MemMode → Instr
  | .bc => .ldIndBcA
  | .de => .ldIndDeA
  | .hli => .ldIndHliA
  | .hld => .ldIndHldA

/-- LD A,(BC), LD A,(DE), LD A,(HL+), LD A,(HL-) (45_load.md R276, R278, R280). -/
def ldMemOf : MemMode → Instr
  | .bc => .ldAIndBc
  | .de => .ldAIndDe
  | .hli => .ldAIndHli
  | .hld => .ldAIndHld

/-- LD rr,n16 (45_load.md R287). -/
def ldN16Of : Pair → Instr
  | .bc => .ldBcN16
  | .de => .ldDeN16
  | .hl => .ldHlN16
  | .sp => .ldSpN16

/-- INC rr (41_alu16.md R171). -/
def incPairOf : Pair → Instr
  | .bc => .incBc
  | .de => .incDe
  | .hl => .incHl
  | .sp => .incSp

/-- DEC rr (41_alu16.md R172). -/
def decPairOf : Pair → Instr
  | .bc => .decBc
  | .de => .decDe
  | .hl => .decHl
  | .sp => .decSp

/-- ADD HL,rr (41_alu16.md R170). -/
def addHlOf : Pair → Instr
  | .bc => .addHlBc
  | .de => .addHlDe
  | .hl => .addHlHl
  | .sp => .addHlSp

/-- PUSH rr (44_control.md R254). -/
def pushOf : StkPair → Instr
  | .bc => .pushBc
  | .de => .pushDe
  | .hl => .pushHl
  | .af => .pushAf

/-- POP rr (44_control.md R255). -/
def popOf : StkPair → Instr
  | .bc => .popBc
  | .de => .popDe
  | .hl => .popHl
  | .af => .popAf

/-- JP cc,a16 (44_control.md R242). -/
def jpOf : Cond → Instr
  | .nz => .jpNzA16
  | .z => .jpZA16
  | .nc => .jpNcA16
  | .c => .jpCA16

/-- JR cc,e8 (44_control.md R245). -/
def jrOf : Cond → Instr
  | .nz => .jrNzE8
  | .z => .jrZE8
  | .nc => .jrNcE8
  | .c => .jrCE8

/-- CALL cc,a16 (44_control.md R247). -/
def callOf : Cond → Instr
  | .nz => .callNzA16
  | .z => .callZA16
  | .nc => .callNcA16
  | .c => .callCA16

/-- RET cc (44_control.md R249). -/
def retOf : Cond → Instr
  | .nz => .retNz
  | .z => .retZ
  | .nc => .retNc
  | .c => .retC

/-- RST tgt*8 (44_control.md R251; 30_encoding.md R100). -/
def rstOf : Fin 8 → Instr
  | 0 => .rst00
  | 1 => .rst08
  | 2 => .rst10
  | 3 => .rst18
  | 4 => .rst20
  | 5 => .rst28
  | 6 => .rst30
  | 7 => .rst38

/-- INC r8 (40_alu8.md R139). -/
def incOf : Loc8 → Instr
  | .b => .incB
  | .c => .incC
  | .d => .incD
  | .e => .incE
  | .h => .incH
  | .l => .incL
  | .indHl => .incIndHl
  | .a => .incA

/-- DEC r8 (40_alu8.md R140). -/
def decOf : Loc8 → Instr
  | .b => .decB
  | .c => .decC
  | .d => .decD
  | .e => .decE
  | .h => .decH
  | .l => .decL
  | .indHl => .decIndHl
  | .a => .decA

/-- The accumulator operations with each of their operands (40_alu8.md R130 to R138). -/
def aluOf : AluOp → AluSrc → Instr
  | .add, .reg .b => .addAB
  | .add, .reg .c => .addAC
  | .add, .reg .d => .addAD
  | .add, .reg .e => .addAE
  | .add, .reg .h => .addAH
  | .add, .reg .l => .addAL
  | .add, .reg .a => .addAA
  | .add, .indHl => .addAIndHl
  | .add, .n8 => .addAN8
  | .adc, .reg .b => .adcAB
  | .adc, .reg .c => .adcAC
  | .adc, .reg .d => .adcAD
  | .adc, .reg .e => .adcAE
  | .adc, .reg .h => .adcAH
  | .adc, .reg .l => .adcAL
  | .adc, .reg .a => .adcAA
  | .adc, .indHl => .adcAIndHl
  | .adc, .n8 => .adcAN8
  | .sub, .reg .b => .subAB
  | .sub, .reg .c => .subAC
  | .sub, .reg .d => .subAD
  | .sub, .reg .e => .subAE
  | .sub, .reg .h => .subAH
  | .sub, .reg .l => .subAL
  | .sub, .reg .a => .subAA
  | .sub, .indHl => .subAIndHl
  | .sub, .n8 => .subAN8
  | .sbc, .reg .b => .sbcAB
  | .sbc, .reg .c => .sbcAC
  | .sbc, .reg .d => .sbcAD
  | .sbc, .reg .e => .sbcAE
  | .sbc, .reg .h => .sbcAH
  | .sbc, .reg .l => .sbcAL
  | .sbc, .reg .a => .sbcAA
  | .sbc, .indHl => .sbcAIndHl
  | .sbc, .n8 => .sbcAN8
  | .and, .reg .b => .andAB
  | .and, .reg .c => .andAC
  | .and, .reg .d => .andAD
  | .and, .reg .e => .andAE
  | .and, .reg .h => .andAH
  | .and, .reg .l => .andAL
  | .and, .reg .a => .andAA
  | .and, .indHl => .andAIndHl
  | .and, .n8 => .andAN8
  | .xor, .reg .b => .xorAB
  | .xor, .reg .c => .xorAC
  | .xor, .reg .d => .xorAD
  | .xor, .reg .e => .xorAE
  | .xor, .reg .h => .xorAH
  | .xor, .reg .l => .xorAL
  | .xor, .reg .a => .xorAA
  | .xor, .indHl => .xorAIndHl
  | .xor, .n8 => .xorAN8
  | .or, .reg .b => .orAB
  | .or, .reg .c => .orAC
  | .or, .reg .d => .orAD
  | .or, .reg .e => .orAE
  | .or, .reg .h => .orAH
  | .or, .reg .l => .orAL
  | .or, .reg .a => .orAA
  | .or, .indHl => .orAIndHl
  | .or, .n8 => .orAN8
  | .cp, .reg .b => .cpAB
  | .cp, .reg .c => .cpAC
  | .cp, .reg .d => .cpAD
  | .cp, .reg .e => .cpAE
  | .cp, .reg .h => .cpAH
  | .cp, .reg .l => .cpAL
  | .cp, .reg .a => .cpAA
  | .cp, .indHl => .cpAIndHl
  | .cp, .n8 => .cpAN8

/-- The unprefixed accumulator rotates (42_rotate_shift.md R190 to R193). -/
def accRotOf : AccRot → Instr
  | .rlca => .rlca
  | .rrca => .rrca
  | .rla => .rla
  | .rra => .rra

/-- The CB rotates, shifts and SWAP (42_rotate_shift.md R194 to R202). -/
def rotOf : RotOp → Loc8 → Instr
  | .rlc, x => .rlcR x
  | .rrc, x => .rrcR x
  | .rl, x => .rlR x
  | .rr, x => .rrR x
  | .sla, x => .slaR x
  | .sra, x => .sraR x
  | .swap, x => .swapR x
  | .srl, x => .srlR x

/-- The instruction of a CB table entry (30_encoding.md R105). -/
def cbOf : CbOp → Instr
  | .rot op x => rotOf op x
  | .bit n x => .bitBR n x
  | .res n x => .resBR n x
  | .set n x => .setBR n x

end Instr

end Sys2Proof
end

