-- ==== Sys2Proof/WellFormed.lean ====
section
/-! DEFINITION. Which terms of `Instr` are instructions or opcodes of the hardware (30_encoding.md R106, R108). -/

namespace Sys2Proof

/-- The plain opcodes that have no table entry (30_encoding.md R106). -/
def unusedOpcodes : List Byte :=
  [0xD3, 0xDB, 0xDD, 0xE3, 0xE4, 0xEB, 0xEC, 0xED, 0xF4, 0xFC, 0xFD]

/-- `noTableEntry` carries one of the eleven bytes of R106. The prefix byte alone is no whole instruction:
followed by any byte it is that entry of the CB table (R105, R108; log entry 4). Every other term is an
instruction: the operand types admit only the operand forms of the tables (R112). -/
def WellFormed : Instr → Bool
  | .noTableEntry op => unusedOpcodes.contains op
  | .prefixCb => false
  | .nop | .ldBcN16 | .ldIndBcA | .incBc | .incB | .decB | .ldBN8 | .rlca | .ldIndA16Sp | .addHlBc
  | .ldAIndBc | .decBc | .incC | .decC | .ldCN8 | .rrca | .stop | .ldDeN16 | .ldIndDeA | .incDe
  | .incD | .decD | .ldDN8 | .rla | .jrE8 | .addHlDe | .ldAIndDe | .decDe | .incE | .decE | .ldEN8
  | .rra | .jrNzE8 | .ldHlN16 | .ldIndHliA | .incHl | .incH | .decH | .ldHN8 | .daa | .jrZE8
  | .addHlHl | .ldAIndHli | .decHl | .incL | .decL | .ldLN8 | .cpl | .jrNcE8 | .ldSpN16
  | .ldIndHldA | .incSp | .incIndHl | .decIndHl | .ldIndHlN8 | .scf | .jrCE8 | .addHlSp
  | .ldAIndHld | .decSp | .incA | .decA | .ldAN8 | .ccf | .ldBB | .ldBC | .ldBD | .ldBE | .ldBH
  | .ldBL | .ldBIndHl | .ldBA | .ldCB | .ldCC | .ldCD | .ldCE | .ldCH | .ldCL | .ldCIndHl | .ldCA
  | .ldDB | .ldDC | .ldDD | .ldDE | .ldDH | .ldDL | .ldDIndHl | .ldDA | .ldEB | .ldEC | .ldED
  | .ldEE | .ldEH | .ldEL | .ldEIndHl | .ldEA | .ldHB | .ldHC | .ldHD | .ldHE | .ldHH | .ldHL
  | .ldHIndHl | .ldHA | .ldLB | .ldLC | .ldLD | .ldLE | .ldLH | .ldLL | .ldLIndHl | .ldLA
  | .ldIndHlB | .ldIndHlC | .ldIndHlD | .ldIndHlE | .ldIndHlH | .ldIndHlL | .halt | .ldIndHlA
  | .ldAB | .ldAC | .ldAD | .ldAE | .ldAH | .ldAL | .ldAIndHl | .ldAA | .addAB | .addAC | .addAD
  | .addAE | .addAH | .addAL | .addAIndHl | .addAA | .adcAB | .adcAC | .adcAD | .adcAE | .adcAH
  | .adcAL | .adcAIndHl | .adcAA | .subAB | .subAC | .subAD | .subAE | .subAH | .subAL | .subAIndHl
  | .subAA | .sbcAB | .sbcAC | .sbcAD | .sbcAE | .sbcAH | .sbcAL | .sbcAIndHl | .sbcAA | .andAB
  | .andAC | .andAD | .andAE | .andAH | .andAL | .andAIndHl | .andAA | .xorAB | .xorAC | .xorAD
  | .xorAE | .xorAH | .xorAL | .xorAIndHl | .xorAA | .orAB | .orAC | .orAD | .orAE | .orAH | .orAL
  | .orAIndHl | .orAA | .cpAB | .cpAC | .cpAD | .cpAE | .cpAH | .cpAL | .cpAIndHl | .cpAA | .retNz
  | .popBc | .jpNzA16 | .jpA16 | .callNzA16 | .pushBc | .addAN8 | .rst00 | .retZ | .ret | .jpZA16
  | .callZA16 | .callA16 | .adcAN8 | .rst08 | .retNc | .popDe | .jpNcA16 | .callNcA16 | .pushDe
  | .subAN8 | .rst10 | .retC | .reti | .jpCA16 | .callCA16 | .sbcAN8 | .rst18 | .ldhIndA8A | .popHl
  | .ldIndCA | .pushHl | .andAN8 | .rst20 | .addSpE8 | .jpHl | .ldIndA16A | .xorAN8 | .rst28
  | .ldhAIndA8 | .popAf | .ldAIndC | .di | .pushAf | .orAN8 | .rst30 | .ldHlSpE8 | .ldSpHl
  | .ldAIndA16 | .ei | .cpAN8 | .rst38 | .rlcR _ | .rrcR _ | .rlR _ | .rrR _ | .slaR _ | .sraR _
  | .swapR _ | .srlR _ | .bitBR _ _ | .resBR _ _ | .setBR _ _ => true

end Sys2Proof
end

