-- ==== Sys2Proof/Decode.lean ====
section
/-! DEFINITION. Decoding, by the opcode maps R104 and R105 of 30_encoding.md, and after it encoding, by the
operand fields R93 to R101 and the formats R92. The bit-field and byte-order helpers both use stand here. -/

namespace Sys2Proof

/-! ## Bytes and words -/

/-- Bits 7..0 of a word (00_scope.md R8). -/
def lowByte (v : Word) : Byte := BitVec.ofNat 8 v.toNat

/-- Bits 15..8 of a word (00_scope.md R8). -/
def highByte (v : Word) : Byte := BitVec.ofNat 8 (v.toNat / 256)

/-- `hi : lo`, that is `(hi << 8) | lo` (00_scope.md R8). -/
def concatBytes (hi lo : Byte) : Word := BitVec.ofNat 16 (hi.toNat * 256 + lo.toNat)

/-! ## Fields of the CB opcode -/

/-- The location of an r8 field (30_encoding.md R94). -/
def Loc8.ofField (i : BitVec 3) : Loc8 :=
  match i.toNat with
  | 0 => .b
  | 1 => .c
  | 2 => .d
  | 3 => .e
  | 4 => .h
  | 5 => .l
  | 6 => .indHl
  | _ => .a

/-- The operation of a group 00 CB opcode (30_encoding.md R101). -/
def RotOp.ofField (i : BitVec 3) : RotOp :=
  match i.toNat with
  | 0 => .rlc
  | 1 => .rrc
  | 2 => .rl
  | 3 => .rr
  | 4 => .sla
  | 5 => .sra
  | 6 => .swap
  | _ => .srl

/-- The CB-prefixed table: `gg bbb rrr` (30_encoding.md R101, R105). It is total. -/
def decodeCb (op : Byte) : CbOp :=
  let bbb := op.extractLsb' 3 3
  let x := Loc8.ofField (op.extractLsb' 0 3)
  match (op.extractLsb' 6 2).toNat with
  | 0 => .rot (RotOp.ofField bbb) x
  | 1 => .bit bbb x
  | 2 => .res bbb x
  | _ => .set bbb x

/-! ## The plain opcode table (30_encoding.md R104), one definition for each row of the map -/

/-- The opcodes 0x00 to 0x0F of the map R104. -/
def plainRow0 : List (Option Instr) :=
  [some .nop, some .ldBcN16, some .ldIndBcA, some .incBc,
    some .incB, some .decB, some .ldBN8, some .rlca,
    some .ldIndA16Sp, some .addHlBc, some .ldAIndBc, some .decBc,
    some .incC, some .decC, some .ldCN8, some .rrca]

/-- The opcodes 0x10 to 0x1F of the map R104. -/
def plainRow1 : List (Option Instr) :=
  [some .stop, some .ldDeN16, some .ldIndDeA, some .incDe,
    some .incD, some .decD, some .ldDN8, some .rla,
    some .jrE8, some .addHlDe, some .ldAIndDe, some .decDe,
    some .incE, some .decE, some .ldEN8, some .rra]

/-- The opcodes 0x20 to 0x2F of the map R104. -/
def plainRow2 : List (Option Instr) :=
  [some .jrNzE8, some .ldHlN16, some .ldIndHliA, some .incHl,
    some .incH, some .decH, some .ldHN8, some .daa,
    some .jrZE8, some .addHlHl, some .ldAIndHli, some .decHl,
    some .incL, some .decL, some .ldLN8, some .cpl]

/-- The opcodes 0x30 to 0x3F of the map R104. -/
def plainRow3 : List (Option Instr) :=
  [some .jrNcE8, some .ldSpN16, some .ldIndHldA, some .incSp,
    some .incIndHl, some .decIndHl, some .ldIndHlN8, some .scf,
    some .jrCE8, some .addHlSp, some .ldAIndHld, some .decSp,
    some .incA, some .decA, some .ldAN8, some .ccf]

/-- The opcodes 0x40 to 0x4F of the map R104. -/
def plainRow4 : List (Option Instr) :=
  [some .ldBB, some .ldBC, some .ldBD, some .ldBE,
    some .ldBH, some .ldBL, some .ldBIndHl, some .ldBA,
    some .ldCB, some .ldCC, some .ldCD, some .ldCE,
    some .ldCH, some .ldCL, some .ldCIndHl, some .ldCA]

/-- The opcodes 0x50 to 0x5F of the map R104. -/
def plainRow5 : List (Option Instr) :=
  [some .ldDB, some .ldDC, some .ldDD, some .ldDE,
    some .ldDH, some .ldDL, some .ldDIndHl, some .ldDA,
    some .ldEB, some .ldEC, some .ldED, some .ldEE,
    some .ldEH, some .ldEL, some .ldEIndHl, some .ldEA]

/-- The opcodes 0x60 to 0x6F of the map R104. -/
def plainRow6 : List (Option Instr) :=
  [some .ldHB, some .ldHC, some .ldHD, some .ldHE,
    some .ldHH, some .ldHL, some .ldHIndHl, some .ldHA,
    some .ldLB, some .ldLC, some .ldLD, some .ldLE,
    some .ldLH, some .ldLL, some .ldLIndHl, some .ldLA]

/-- The opcodes 0x70 to 0x7F of the map R104. -/
def plainRow7 : List (Option Instr) :=
  [some .ldIndHlB, some .ldIndHlC, some .ldIndHlD, some .ldIndHlE,
    some .ldIndHlH, some .ldIndHlL, some .halt, some .ldIndHlA,
    some .ldAB, some .ldAC, some .ldAD, some .ldAE,
    some .ldAH, some .ldAL, some .ldAIndHl, some .ldAA]

/-- The opcodes 0x80 to 0x8F of the map R104. -/
def plainRow8 : List (Option Instr) :=
  [some .addAB, some .addAC, some .addAD, some .addAE,
    some .addAH, some .addAL, some .addAIndHl, some .addAA,
    some .adcAB, some .adcAC, some .adcAD, some .adcAE,
    some .adcAH, some .adcAL, some .adcAIndHl, some .adcAA]

/-- The opcodes 0x90 to 0x9F of the map R104. -/
def plainRow9 : List (Option Instr) :=
  [some .subAB, some .subAC, some .subAD, some .subAE,
    some .subAH, some .subAL, some .subAIndHl, some .subAA,
    some .sbcAB, some .sbcAC, some .sbcAD, some .sbcAE,
    some .sbcAH, some .sbcAL, some .sbcAIndHl, some .sbcAA]

/-- The opcodes 0xA0 to 0xAF of the map R104. -/
def plainRowA : List (Option Instr) :=
  [some .andAB, some .andAC, some .andAD, some .andAE,
    some .andAH, some .andAL, some .andAIndHl, some .andAA,
    some .xorAB, some .xorAC, some .xorAD, some .xorAE,
    some .xorAH, some .xorAL, some .xorAIndHl, some .xorAA]

/-- The opcodes 0xB0 to 0xBF of the map R104. -/
def plainRowB : List (Option Instr) :=
  [some .orAB, some .orAC, some .orAD, some .orAE,
    some .orAH, some .orAL, some .orAIndHl, some .orAA,
    some .cpAB, some .cpAC, some .cpAD, some .cpAE,
    some .cpAH, some .cpAL, some .cpAIndHl, some .cpAA]

/-- The opcodes 0xC0 to 0xCF of the map R104. -/
def plainRowC : List (Option Instr) :=
  [some .retNz, some .popBc, some .jpNzA16, some .jpA16,
    some .callNzA16, some .pushBc, some .addAN8, some .rst00,
    some .retZ, some .ret, some .jpZA16, some .prefixCb,
    some .callZA16, some .callA16, some .adcAN8, some .rst08]

/-- The opcodes 0xD0 to 0xDF of the map R104. -/
def plainRowD : List (Option Instr) :=
  [some .retNc, some .popDe, some .jpNcA16, none,
    some .callNcA16, some .pushDe, some .subAN8, some .rst10,
    some .retC, some .reti, some .jpCA16, none,
    some .callCA16, none, some .sbcAN8, some .rst18]

/-- The opcodes 0xE0 to 0xEF of the map R104. -/
def plainRowE : List (Option Instr) :=
  [some .ldhIndA8A, some .popHl, some .ldIndCA, none,
    none, some .pushHl, some .andAN8, some .rst20,
    some .addSpE8, some .jpHl, some .ldIndA16A, none,
    none, none, some .xorAN8, some .rst28]

/-- The opcodes 0xF0 to 0xFF of the map R104. -/
def plainRowF : List (Option Instr) :=
  [some .ldhAIndA8, some .popAf, some .ldAIndC, some .di,
    none, some .pushAf, some .orAN8, some .rst30,
    some .ldHlSpE8, some .ldSpHl, some .ldAIndA16, some .ei,
    none, none, some .cpAN8, some .rst38]

/-- The map R104, row after row. `none` marks its eleven empty cells. -/
def plainTable : List (Option Instr) :=
  plainRow0 ++ plainRow1 ++ plainRow2 ++ plainRow3 ++ plainRow4 ++ plainRow5 ++ plainRow6 ++ plainRow7 ++
  plainRow8 ++ plainRow9 ++ plainRowA ++ plainRowB ++ plainRowC ++ plainRowD ++ plainRowE ++ plainRowF

/-- The spec's `decode(byte, prefixed)` (30_encoding.md R109): a pure function of its two arguments that
consumes no immediate. -/
def decodeByte (op : Byte) : (isPrefixed : Bool) → Option Instr
  | false => plainTable.getD op.toNat none
  | true => some (.cbOf (decodeCb op))

/-- The two-level decode of `step` (30_encoding.md R90): `b0` is the byte at PC, `b1` the byte after it,
which matters only behind the prefix. -/
def decodeEntry (b0 b1 : Byte) : Option Instr :=
  if b0 = 0xCB then decodeByte b1 true else decodeByte b0 false

/-- `decodeEntry` with the row `noTableEntry` where the table has none (log entry 5). -/
def decodeRow (b0 b1 : Byte) : Instr :=
  (decodeEntry b0 b1).getD (.noTableEntry b0)

/-! ## Formats and lengths -/

/-- The bytes of a format that follow its opcode (30_encoding.md R92). -/
def Format.immediateBytes : Format → Nat
  | .op => 0
  | .opN8 => 1
  | .opE8 => 1
  | .opA8 => 1
  | .opN16 => 2
  | .opA16 => 2
  | .cb => 0
  | .stop => 1

/-- The length of a format (30_encoding.md R92). -/
def Format.length : Format → Nat
  | .op => 1
  | .opN8 => 2
  | .opE8 => 2
  | .opA8 => 2
  | .opN16 => 3
  | .opA16 => 3
  | .cb => 2
  | .stop => 2

/-- The format of each row of the opcode table (30_encoding.md R92). -/
def Instr.format : Instr → Format
  | .nop | .ldIndBcA | .incBc | .incB | .decB | .rlca | .addHlBc | .ldAIndBc | .decBc | .incC
  | .decC | .rrca | .ldIndDeA | .incDe | .incD | .decD | .rla | .addHlDe | .ldAIndDe | .decDe
  | .incE | .decE | .rra | .ldIndHliA | .incHl | .incH | .decH | .daa | .addHlHl | .ldAIndHli
  | .decHl | .incL | .decL | .cpl | .ldIndHldA | .incSp | .incIndHl | .decIndHl | .scf | .addHlSp
  | .ldAIndHld | .decSp | .incA | .decA | .ccf | .ldBB | .ldBC | .ldBD | .ldBE | .ldBH | .ldBL
  | .ldBIndHl | .ldBA | .ldCB | .ldCC | .ldCD | .ldCE | .ldCH | .ldCL | .ldCIndHl | .ldCA | .ldDB
  | .ldDC | .ldDD | .ldDE | .ldDH | .ldDL | .ldDIndHl | .ldDA | .ldEB | .ldEC | .ldED | .ldEE
  | .ldEH | .ldEL | .ldEIndHl | .ldEA | .ldHB | .ldHC | .ldHD | .ldHE | .ldHH | .ldHL | .ldHIndHl
  | .ldHA | .ldLB | .ldLC | .ldLD | .ldLE | .ldLH | .ldLL | .ldLIndHl | .ldLA | .ldIndHlB
  | .ldIndHlC | .ldIndHlD | .ldIndHlE | .ldIndHlH | .ldIndHlL | .halt | .ldIndHlA | .ldAB | .ldAC
  | .ldAD | .ldAE | .ldAH | .ldAL | .ldAIndHl | .ldAA | .addAB | .addAC | .addAD | .addAE | .addAH
  | .addAL | .addAIndHl | .addAA | .adcAB | .adcAC | .adcAD | .adcAE | .adcAH | .adcAL | .adcAIndHl
  | .adcAA | .subAB | .subAC | .subAD | .subAE | .subAH | .subAL | .subAIndHl | .subAA | .sbcAB
  | .sbcAC | .sbcAD | .sbcAE | .sbcAH | .sbcAL | .sbcAIndHl | .sbcAA | .andAB | .andAC | .andAD
  | .andAE | .andAH | .andAL | .andAIndHl | .andAA | .xorAB | .xorAC | .xorAD | .xorAE | .xorAH
  | .xorAL | .xorAIndHl | .xorAA | .orAB | .orAC | .orAD | .orAE | .orAH | .orAL | .orAIndHl
  | .orAA | .cpAB | .cpAC | .cpAD | .cpAE | .cpAH | .cpAL | .cpAIndHl | .cpAA | .retNz | .popBc
  | .pushBc | .rst00 | .retZ | .ret | .rst08 | .retNc | .popDe | .noTableEntry _ | .pushDe | .rst10
  | .retC | .reti | .rst18 | .popHl | .ldIndCA | .pushHl | .rst20 | .jpHl | .rst28 | .popAf
  | .ldAIndC | .di | .pushAf | .rst30 | .ldSpHl | .ei | .rst38 => .op
  | .ldBN8 | .ldCN8 | .ldDN8 | .ldEN8 | .ldHN8 | .ldLN8 | .ldIndHlN8 | .ldAN8 | .addAN8 | .adcAN8
  | .subAN8 | .sbcAN8 | .andAN8 | .xorAN8 | .orAN8 | .cpAN8 => .opN8
  | .jrE8 | .jrNzE8 | .jrZE8 | .jrNcE8 | .jrCE8 | .addSpE8 | .ldHlSpE8 => .opE8
  | .ldhIndA8A | .ldhAIndA8 => .opA8
  | .ldBcN16 | .ldDeN16 | .ldHlN16 | .ldSpN16 => .opN16
  | .ldIndA16Sp | .jpNzA16 | .jpA16 | .callNzA16 | .jpZA16 | .callZA16 | .callA16 | .jpNcA16
  | .callNcA16 | .jpCA16 | .callCA16 | .ldIndA16A | .ldAIndA16 => .opA16
  | .prefixCb | .rlcR _ | .rrcR _ | .rlR _ | .rrR _ | .slaR _ | .sraR _ | .swapR _ | .srlR _
  | .bitBR _ _ | .resBR _ _ | .setBR _ _ => .cb
  | .stop => .stop

/-- The length of an instruction, the `length` column of the opcode table (30_encoding.md R91). -/
def Instr.length (i : Instr) : Nat := i.format.length

/-! ## The decoder of byte strings -/

/-- Why a byte string is refused. -/
inductive DecodeReject where
  /-- There is no byte at all. -/
  | empty
  /-- The string ends inside the instruction, which has `need` bytes. -/
  | truncated (need : Nat)
  deriving DecidableEq, Repr

/-- The instruction at the head of a byte string and the bytes after it, its immediate bytes passed over.
Total: a string too short for its instruction is refused by name. -/
def decode : List Byte → Except DecodeReject (Instr × List Byte)
  | [] => .error .empty
  | b0 :: rest =>
    if b0 = 0xCB ∧ rest.isEmpty then .error (.truncated 2)
    else
      let i := decodeRow b0 (rest.headD 0)
      if i.length ≤ rest.length + 1 then .ok (i, rest.drop (i.length - 1))
      else .error (.truncated i.length)

/-! ## Encoding: field values -/

/-- r8 field of a location (30_encoding.md R94). -/
def Loc8.field : Loc8 → Nat
  | .b => 0
  | .c => 1
  | .d => 2
  | .e => 3
  | .h => 4
  | .l => 5
  | .indHl => 6
  | .a => 7

/-- r16 field (30_encoding.md R95). -/
def Pair.field : Pair → Nat
  | .bc => 0
  | .de => 1
  | .hl => 2
  | .sp => 3

/-- r16stk field (30_encoding.md R96). -/
def StkPair.field : StkPair → Nat
  | .bc => 0
  | .de => 1
  | .hl => 2
  | .af => 3

/-- r16mem field (30_encoding.md R97). -/
def MemMode.field : MemMode → Nat
  | .bc => 0
  | .de => 1
  | .hli => 2
  | .hld => 3

/-- cc field (30_encoding.md R98). -/
def Cond.field : Cond → Nat
  | .nz => 0
  | .z => 1
  | .nc => 2
  | .c => 3

/-- alu field (30_encoding.md R99). -/
def AluOp.field : AluOp → Nat
  | .add => 0
  | .adc => 1
  | .sub => 2
  | .sbc => 3
  | .and => 4
  | .xor => 5
  | .or => 6
  | .cp => 7

/-- `bbb` field of CB group 00 (30_encoding.md R101). -/
def RotOp.field : RotOp → Nat
  | .rlc => 0
  | .rrc => 1
  | .rl => 2
  | .rr => 3
  | .sla => 4
  | .sra => 5
  | .swap => 6
  | .srl => 7

/-- The opcode byte of the fields `x y z` (30_encoding.md R93). -/
def opcodeXyz (x y z : Nat) : Byte := BitVec.ofNat 8 (x * 64 + y * 8 + z)

/-- The opcode byte of the fields `x p q z` (30_encoding.md R93). -/
def opcodeXpqz (x p q z : Nat) : Byte := BitVec.ofNat 8 (x * 64 + p * 16 + q * 8 + z)

/-- The opcode bytes of an instruction: the opcode, or the prefix and the CB opcode. -/
def Instr.opcodeBytes : Instr → List Byte
  | .nop => [0x00]
  | .ldBcN16 => [opcodeXpqz 0 (Pair.field .bc) 0 1]
  | .ldIndBcA => [opcodeXpqz 0 (MemMode.field .bc) 0 2]
  | .incBc => [opcodeXpqz 0 (Pair.field .bc) 0 3]
  | .incB => [opcodeXyz 0 (Loc8.field .b) 4]
  | .decB => [opcodeXyz 0 (Loc8.field .b) 5]
  | .ldBN8 => [opcodeXyz 0 (Loc8.field .b) 6]
  | .rlca => [0x07]
  | .ldIndA16Sp => [0x08]
  | .addHlBc => [opcodeXpqz 0 (Pair.field .bc) 1 1]
  | .ldAIndBc => [opcodeXpqz 0 (MemMode.field .bc) 1 2]
  | .decBc => [opcodeXpqz 0 (Pair.field .bc) 1 3]
  | .incC => [opcodeXyz 0 (Loc8.field .c) 4]
  | .decC => [opcodeXyz 0 (Loc8.field .c) 5]
  | .ldCN8 => [opcodeXyz 0 (Loc8.field .c) 6]
  | .rrca => [0x0F]
  | .stop => [0x10]
  | .ldDeN16 => [opcodeXpqz 0 (Pair.field .de) 0 1]
  | .ldIndDeA => [opcodeXpqz 0 (MemMode.field .de) 0 2]
  | .incDe => [opcodeXpqz 0 (Pair.field .de) 0 3]
  | .incD => [opcodeXyz 0 (Loc8.field .d) 4]
  | .decD => [opcodeXyz 0 (Loc8.field .d) 5]
  | .ldDN8 => [opcodeXyz 0 (Loc8.field .d) 6]
  | .rla => [0x17]
  | .jrE8 => [0x18]
  | .addHlDe => [opcodeXpqz 0 (Pair.field .de) 1 1]
  | .ldAIndDe => [opcodeXpqz 0 (MemMode.field .de) 1 2]
  | .decDe => [opcodeXpqz 0 (Pair.field .de) 1 3]
  | .incE => [opcodeXyz 0 (Loc8.field .e) 4]
  | .decE => [opcodeXyz 0 (Loc8.field .e) 5]
  | .ldEN8 => [opcodeXyz 0 (Loc8.field .e) 6]
  | .rra => [0x1F]
  | .jrNzE8 => [opcodeXyz 0 (4 + Cond.field .nz) 0]
  | .ldHlN16 => [opcodeXpqz 0 (Pair.field .hl) 0 1]
  | .ldIndHliA => [opcodeXpqz 0 (MemMode.field .hli) 0 2]
  | .incHl => [opcodeXpqz 0 (Pair.field .hl) 0 3]
  | .incH => [opcodeXyz 0 (Loc8.field .h) 4]
  | .decH => [opcodeXyz 0 (Loc8.field .h) 5]
  | .ldHN8 => [opcodeXyz 0 (Loc8.field .h) 6]
  | .daa => [0x27]
  | .jrZE8 => [opcodeXyz 0 (4 + Cond.field .z) 0]
  | .addHlHl => [opcodeXpqz 0 (Pair.field .hl) 1 1]
  | .ldAIndHli => [opcodeXpqz 0 (MemMode.field .hli) 1 2]
  | .decHl => [opcodeXpqz 0 (Pair.field .hl) 1 3]
  | .incL => [opcodeXyz 0 (Loc8.field .l) 4]
  | .decL => [opcodeXyz 0 (Loc8.field .l) 5]
  | .ldLN8 => [opcodeXyz 0 (Loc8.field .l) 6]
  | .cpl => [0x2F]
  | .jrNcE8 => [opcodeXyz 0 (4 + Cond.field .nc) 0]
  | .ldSpN16 => [opcodeXpqz 0 (Pair.field .sp) 0 1]
  | .ldIndHldA => [opcodeXpqz 0 (MemMode.field .hld) 0 2]
  | .incSp => [opcodeXpqz 0 (Pair.field .sp) 0 3]
  | .incIndHl => [opcodeXyz 0 (Loc8.field .indHl) 4]
  | .decIndHl => [opcodeXyz 0 (Loc8.field .indHl) 5]
  | .ldIndHlN8 => [opcodeXyz 0 (Loc8.field .indHl) 6]
  | .scf => [0x37]
  | .jrCE8 => [opcodeXyz 0 (4 + Cond.field .c) 0]
  | .addHlSp => [opcodeXpqz 0 (Pair.field .sp) 1 1]
  | .ldAIndHld => [opcodeXpqz 0 (MemMode.field .hld) 1 2]
  | .decSp => [opcodeXpqz 0 (Pair.field .sp) 1 3]
  | .incA => [opcodeXyz 0 (Loc8.field .a) 4]
  | .decA => [opcodeXyz 0 (Loc8.field .a) 5]
  | .ldAN8 => [opcodeXyz 0 (Loc8.field .a) 6]
  | .ccf => [0x3F]
  | .ldBB => [opcodeXyz 1 (Loc8.field .b) (Loc8.field .b)]
  | .ldBC => [opcodeXyz 1 (Loc8.field .b) (Loc8.field .c)]
  | .ldBD => [opcodeXyz 1 (Loc8.field .b) (Loc8.field .d)]
  | .ldBE => [opcodeXyz 1 (Loc8.field .b) (Loc8.field .e)]
  | .ldBH => [opcodeXyz 1 (Loc8.field .b) (Loc8.field .h)]
  | .ldBL => [opcodeXyz 1 (Loc8.field .b) (Loc8.field .l)]
  | .ldBIndHl => [opcodeXyz 1 (Loc8.field .b) (Loc8.field .indHl)]
  | .ldBA => [opcodeXyz 1 (Loc8.field .b) (Loc8.field .a)]
  | .ldCB => [opcodeXyz 1 (Loc8.field .c) (Loc8.field .b)]
  | .ldCC => [opcodeXyz 1 (Loc8.field .c) (Loc8.field .c)]
  | .ldCD => [opcodeXyz 1 (Loc8.field .c) (Loc8.field .d)]
  | .ldCE => [opcodeXyz 1 (Loc8.field .c) (Loc8.field .e)]
  | .ldCH => [opcodeXyz 1 (Loc8.field .c) (Loc8.field .h)]
  | .ldCL => [opcodeXyz 1 (Loc8.field .c) (Loc8.field .l)]
  | .ldCIndHl => [opcodeXyz 1 (Loc8.field .c) (Loc8.field .indHl)]
  | .ldCA => [opcodeXyz 1 (Loc8.field .c) (Loc8.field .a)]
  | .ldDB => [opcodeXyz 1 (Loc8.field .d) (Loc8.field .b)]
  | .ldDC => [opcodeXyz 1 (Loc8.field .d) (Loc8.field .c)]
  | .ldDD => [opcodeXyz 1 (Loc8.field .d) (Loc8.field .d)]
  | .ldDE => [opcodeXyz 1 (Loc8.field .d) (Loc8.field .e)]
  | .ldDH => [opcodeXyz 1 (Loc8.field .d) (Loc8.field .h)]
  | .ldDL => [opcodeXyz 1 (Loc8.field .d) (Loc8.field .l)]
  | .ldDIndHl => [opcodeXyz 1 (Loc8.field .d) (Loc8.field .indHl)]
  | .ldDA => [opcodeXyz 1 (Loc8.field .d) (Loc8.field .a)]
  | .ldEB => [opcodeXyz 1 (Loc8.field .e) (Loc8.field .b)]
  | .ldEC => [opcodeXyz 1 (Loc8.field .e) (Loc8.field .c)]
  | .ldED => [opcodeXyz 1 (Loc8.field .e) (Loc8.field .d)]
  | .ldEE => [opcodeXyz 1 (Loc8.field .e) (Loc8.field .e)]
  | .ldEH => [opcodeXyz 1 (Loc8.field .e) (Loc8.field .h)]
  | .ldEL => [opcodeXyz 1 (Loc8.field .e) (Loc8.field .l)]
  | .ldEIndHl => [opcodeXyz 1 (Loc8.field .e) (Loc8.field .indHl)]
  | .ldEA => [opcodeXyz 1 (Loc8.field .e) (Loc8.field .a)]
  | .ldHB => [opcodeXyz 1 (Loc8.field .h) (Loc8.field .b)]
  | .ldHC => [opcodeXyz 1 (Loc8.field .h) (Loc8.field .c)]
  | .ldHD => [opcodeXyz 1 (Loc8.field .h) (Loc8.field .d)]
  | .ldHE => [opcodeXyz 1 (Loc8.field .h) (Loc8.field .e)]
  | .ldHH => [opcodeXyz 1 (Loc8.field .h) (Loc8.field .h)]
  | .ldHL => [opcodeXyz 1 (Loc8.field .h) (Loc8.field .l)]
  | .ldHIndHl => [opcodeXyz 1 (Loc8.field .h) (Loc8.field .indHl)]
  | .ldHA => [opcodeXyz 1 (Loc8.field .h) (Loc8.field .a)]
  | .ldLB => [opcodeXyz 1 (Loc8.field .l) (Loc8.field .b)]
  | .ldLC => [opcodeXyz 1 (Loc8.field .l) (Loc8.field .c)]
  | .ldLD => [opcodeXyz 1 (Loc8.field .l) (Loc8.field .d)]
  | .ldLE => [opcodeXyz 1 (Loc8.field .l) (Loc8.field .e)]
  | .ldLH => [opcodeXyz 1 (Loc8.field .l) (Loc8.field .h)]
  | .ldLL => [opcodeXyz 1 (Loc8.field .l) (Loc8.field .l)]
  | .ldLIndHl => [opcodeXyz 1 (Loc8.field .l) (Loc8.field .indHl)]
  | .ldLA => [opcodeXyz 1 (Loc8.field .l) (Loc8.field .a)]
  | .ldIndHlB => [opcodeXyz 1 (Loc8.field .indHl) (Loc8.field .b)]
  | .ldIndHlC => [opcodeXyz 1 (Loc8.field .indHl) (Loc8.field .c)]
  | .ldIndHlD => [opcodeXyz 1 (Loc8.field .indHl) (Loc8.field .d)]
  | .ldIndHlE => [opcodeXyz 1 (Loc8.field .indHl) (Loc8.field .e)]
  | .ldIndHlH => [opcodeXyz 1 (Loc8.field .indHl) (Loc8.field .h)]
  | .ldIndHlL => [opcodeXyz 1 (Loc8.field .indHl) (Loc8.field .l)]
  | .halt => [0x76]
  | .ldIndHlA => [opcodeXyz 1 (Loc8.field .indHl) (Loc8.field .a)]
  | .ldAB => [opcodeXyz 1 (Loc8.field .a) (Loc8.field .b)]
  | .ldAC => [opcodeXyz 1 (Loc8.field .a) (Loc8.field .c)]
  | .ldAD => [opcodeXyz 1 (Loc8.field .a) (Loc8.field .d)]
  | .ldAE => [opcodeXyz 1 (Loc8.field .a) (Loc8.field .e)]
  | .ldAH => [opcodeXyz 1 (Loc8.field .a) (Loc8.field .h)]
  | .ldAL => [opcodeXyz 1 (Loc8.field .a) (Loc8.field .l)]
  | .ldAIndHl => [opcodeXyz 1 (Loc8.field .a) (Loc8.field .indHl)]
  | .ldAA => [opcodeXyz 1 (Loc8.field .a) (Loc8.field .a)]
  | .addAB => [opcodeXyz 2 (AluOp.field .add) (Loc8.field .b)]
  | .addAC => [opcodeXyz 2 (AluOp.field .add) (Loc8.field .c)]
  | .addAD => [opcodeXyz 2 (AluOp.field .add) (Loc8.field .d)]
  | .addAE => [opcodeXyz 2 (AluOp.field .add) (Loc8.field .e)]
  | .addAH => [opcodeXyz 2 (AluOp.field .add) (Loc8.field .h)]
  | .addAL => [opcodeXyz 2 (AluOp.field .add) (Loc8.field .l)]
  | .addAIndHl => [opcodeXyz 2 (AluOp.field .add) (Loc8.field .indHl)]
  | .addAA => [opcodeXyz 2 (AluOp.field .add) (Loc8.field .a)]
  | .adcAB => [opcodeXyz 2 (AluOp.field .adc) (Loc8.field .b)]
  | .adcAC => [opcodeXyz 2 (AluOp.field .adc) (Loc8.field .c)]
  | .adcAD => [opcodeXyz 2 (AluOp.field .adc) (Loc8.field .d)]
  | .adcAE => [opcodeXyz 2 (AluOp.field .adc) (Loc8.field .e)]
  | .adcAH => [opcodeXyz 2 (AluOp.field .adc) (Loc8.field .h)]
  | .adcAL => [opcodeXyz 2 (AluOp.field .adc) (Loc8.field .l)]
  | .adcAIndHl => [opcodeXyz 2 (AluOp.field .adc) (Loc8.field .indHl)]
  | .adcAA => [opcodeXyz 2 (AluOp.field .adc) (Loc8.field .a)]
  | .subAB => [opcodeXyz 2 (AluOp.field .sub) (Loc8.field .b)]
  | .subAC => [opcodeXyz 2 (AluOp.field .sub) (Loc8.field .c)]
  | .subAD => [opcodeXyz 2 (AluOp.field .sub) (Loc8.field .d)]
  | .subAE => [opcodeXyz 2 (AluOp.field .sub) (Loc8.field .e)]
  | .subAH => [opcodeXyz 2 (AluOp.field .sub) (Loc8.field .h)]
  | .subAL => [opcodeXyz 2 (AluOp.field .sub) (Loc8.field .l)]
  | .subAIndHl => [opcodeXyz 2 (AluOp.field .sub) (Loc8.field .indHl)]
  | .subAA => [opcodeXyz 2 (AluOp.field .sub) (Loc8.field .a)]
  | .sbcAB => [opcodeXyz 2 (AluOp.field .sbc) (Loc8.field .b)]
  | .sbcAC => [opcodeXyz 2 (AluOp.field .sbc) (Loc8.field .c)]
  | .sbcAD => [opcodeXyz 2 (AluOp.field .sbc) (Loc8.field .d)]
  | .sbcAE => [opcodeXyz 2 (AluOp.field .sbc) (Loc8.field .e)]
  | .sbcAH => [opcodeXyz 2 (AluOp.field .sbc) (Loc8.field .h)]
  | .sbcAL => [opcodeXyz 2 (AluOp.field .sbc) (Loc8.field .l)]
  | .sbcAIndHl => [opcodeXyz 2 (AluOp.field .sbc) (Loc8.field .indHl)]
  | .sbcAA => [opcodeXyz 2 (AluOp.field .sbc) (Loc8.field .a)]
  | .andAB => [opcodeXyz 2 (AluOp.field .and) (Loc8.field .b)]
  | .andAC => [opcodeXyz 2 (AluOp.field .and) (Loc8.field .c)]
  | .andAD => [opcodeXyz 2 (AluOp.field .and) (Loc8.field .d)]
  | .andAE => [opcodeXyz 2 (AluOp.field .and) (Loc8.field .e)]
  | .andAH => [opcodeXyz 2 (AluOp.field .and) (Loc8.field .h)]
  | .andAL => [opcodeXyz 2 (AluOp.field .and) (Loc8.field .l)]
  | .andAIndHl => [opcodeXyz 2 (AluOp.field .and) (Loc8.field .indHl)]
  | .andAA => [opcodeXyz 2 (AluOp.field .and) (Loc8.field .a)]
  | .xorAB => [opcodeXyz 2 (AluOp.field .xor) (Loc8.field .b)]
  | .xorAC => [opcodeXyz 2 (AluOp.field .xor) (Loc8.field .c)]
  | .xorAD => [opcodeXyz 2 (AluOp.field .xor) (Loc8.field .d)]
  | .xorAE => [opcodeXyz 2 (AluOp.field .xor) (Loc8.field .e)]
  | .xorAH => [opcodeXyz 2 (AluOp.field .xor) (Loc8.field .h)]
  | .xorAL => [opcodeXyz 2 (AluOp.field .xor) (Loc8.field .l)]
  | .xorAIndHl => [opcodeXyz 2 (AluOp.field .xor) (Loc8.field .indHl)]
  | .xorAA => [opcodeXyz 2 (AluOp.field .xor) (Loc8.field .a)]
  | .orAB => [opcodeXyz 2 (AluOp.field .or) (Loc8.field .b)]
  | .orAC => [opcodeXyz 2 (AluOp.field .or) (Loc8.field .c)]
  | .orAD => [opcodeXyz 2 (AluOp.field .or) (Loc8.field .d)]
  | .orAE => [opcodeXyz 2 (AluOp.field .or) (Loc8.field .e)]
  | .orAH => [opcodeXyz 2 (AluOp.field .or) (Loc8.field .h)]
  | .orAL => [opcodeXyz 2 (AluOp.field .or) (Loc8.field .l)]
  | .orAIndHl => [opcodeXyz 2 (AluOp.field .or) (Loc8.field .indHl)]
  | .orAA => [opcodeXyz 2 (AluOp.field .or) (Loc8.field .a)]
  | .cpAB => [opcodeXyz 2 (AluOp.field .cp) (Loc8.field .b)]
  | .cpAC => [opcodeXyz 2 (AluOp.field .cp) (Loc8.field .c)]
  | .cpAD => [opcodeXyz 2 (AluOp.field .cp) (Loc8.field .d)]
  | .cpAE => [opcodeXyz 2 (AluOp.field .cp) (Loc8.field .e)]
  | .cpAH => [opcodeXyz 2 (AluOp.field .cp) (Loc8.field .h)]
  | .cpAL => [opcodeXyz 2 (AluOp.field .cp) (Loc8.field .l)]
  | .cpAIndHl => [opcodeXyz 2 (AluOp.field .cp) (Loc8.field .indHl)]
  | .cpAA => [opcodeXyz 2 (AluOp.field .cp) (Loc8.field .a)]
  | .retNz => [opcodeXyz 3 (Cond.field .nz) 0]
  | .popBc => [opcodeXpqz 3 (StkPair.field .bc) 0 1]
  | .jpNzA16 => [opcodeXyz 3 (Cond.field .nz) 2]
  | .jpA16 => [0xC3]
  | .callNzA16 => [opcodeXyz 3 (Cond.field .nz) 4]
  | .pushBc => [opcodeXpqz 3 (StkPair.field .bc) 0 5]
  | .addAN8 => [opcodeXyz 3 (AluOp.field .add) 6]
  | .rst00 => [opcodeXyz 3 0 7]
  | .retZ => [opcodeXyz 3 (Cond.field .z) 0]
  | .ret => [0xC9]
  | .jpZA16 => [opcodeXyz 3 (Cond.field .z) 2]
  | .prefixCb => [0xCB]
  | .callZA16 => [opcodeXyz 3 (Cond.field .z) 4]
  | .callA16 => [0xCD]
  | .adcAN8 => [opcodeXyz 3 (AluOp.field .adc) 6]
  | .rst08 => [opcodeXyz 3 1 7]
  | .retNc => [opcodeXyz 3 (Cond.field .nc) 0]
  | .popDe => [opcodeXpqz 3 (StkPair.field .de) 0 1]
  | .jpNcA16 => [opcodeXyz 3 (Cond.field .nc) 2]
  | .noTableEntry op => [op]
  | .callNcA16 => [opcodeXyz 3 (Cond.field .nc) 4]
  | .pushDe => [opcodeXpqz 3 (StkPair.field .de) 0 5]
  | .subAN8 => [opcodeXyz 3 (AluOp.field .sub) 6]
  | .rst10 => [opcodeXyz 3 2 7]
  | .retC => [opcodeXyz 3 (Cond.field .c) 0]
  | .reti => [0xD9]
  | .jpCA16 => [opcodeXyz 3 (Cond.field .c) 2]
  | .callCA16 => [opcodeXyz 3 (Cond.field .c) 4]
  | .sbcAN8 => [opcodeXyz 3 (AluOp.field .sbc) 6]
  | .rst18 => [opcodeXyz 3 3 7]
  | .ldhIndA8A => [0xE0]
  | .popHl => [opcodeXpqz 3 (StkPair.field .hl) 0 1]
  | .ldIndCA => [0xE2]
  | .pushHl => [opcodeXpqz 3 (StkPair.field .hl) 0 5]
  | .andAN8 => [opcodeXyz 3 (AluOp.field .and) 6]
  | .rst20 => [opcodeXyz 3 4 7]
  | .addSpE8 => [0xE8]
  | .jpHl => [0xE9]
  | .ldIndA16A => [0xEA]
  | .xorAN8 => [opcodeXyz 3 (AluOp.field .xor) 6]
  | .rst28 => [opcodeXyz 3 5 7]
  | .ldhAIndA8 => [0xF0]
  | .popAf => [opcodeXpqz 3 (StkPair.field .af) 0 1]
  | .ldAIndC => [0xF2]
  | .di => [0xF3]
  | .pushAf => [opcodeXpqz 3 (StkPair.field .af) 0 5]
  | .orAN8 => [opcodeXyz 3 (AluOp.field .or) 6]
  | .rst30 => [opcodeXyz 3 6 7]
  | .ldHlSpE8 => [0xF8]
  | .ldSpHl => [0xF9]
  | .ldAIndA16 => [0xFA]
  | .ei => [0xFB]
  | .cpAN8 => [opcodeXyz 3 (AluOp.field .cp) 6]
  | .rst38 => [opcodeXyz 3 7 7]
  | .rlcR x => [0xCB, opcodeXyz 0 (RotOp.field .rlc) x.field]
  | .rrcR x => [0xCB, opcodeXyz 0 (RotOp.field .rrc) x.field]
  | .rlR x => [0xCB, opcodeXyz 0 (RotOp.field .rl) x.field]
  | .rrR x => [0xCB, opcodeXyz 0 (RotOp.field .rr) x.field]
  | .slaR x => [0xCB, opcodeXyz 0 (RotOp.field .sla) x.field]
  | .sraR x => [0xCB, opcodeXyz 0 (RotOp.field .sra) x.field]
  | .swapR x => [0xCB, opcodeXyz 0 (RotOp.field .swap) x.field]
  | .srlR x => [0xCB, opcodeXyz 0 (RotOp.field .srl) x.field]
  | .bitBR n x => [0xCB, opcodeXyz 1 n.toNat x.field]
  | .resBR n x => [0xCB, opcodeXyz 2 n.toNat x.field]
  | .setBR n x => [0xCB, opcodeXyz 3 n.toNat x.field]

/-- The bytes after the opcode: none, the low byte of the immediate, or both bytes, low byte first
(30_encoding.md R92, R102). -/
def immediateOf (n : Nat) (imm : Word) : List Byte :=
  [lowByte imm, highByte imm].take n

/-- The bytes of an instruction whose immediate (or, for STOP, unexamined byte) is `imm`; a format without
one ignores it, a format with one byte takes its low byte. -/
def encode (i : Instr) (imm : Word) : List Byte :=
  i.opcodeBytes ++ immediateOf i.format.immediateBytes imm

/-! ## Words numbered as the opcode table numbers them -/

/-- The three bytes an opcode-table word of `nbits` bits stands for, first byte first. The table numbers a CB
row with the prefix in bits 15..8, the CB opcode in bits 7..0, and the opcode of a plain row in bits 7..0.
DEDUCED from the rows' match and mask columns (log entry 8, safe). -/
def tableWordBytes (nbits w : Nat) : List Byte :=
  if nbits = 16 ∧ w / 256 % 256 = 0xCB then
    [0xCB, BitVec.ofNat 8 w, 0]
  else
    let v := w % 2 ^ nbits
    [BitVec.ofNat 8 v, BitVec.ofNat 8 (v / 256), BitVec.ofNat 8 (v / 65536)]

/-- The instruction the decoder reads from an opcode-table word. -/
def decodeTableWord (nbits w : Nat) : Option Instr :=
  match decode (tableWordBytes nbits w) with
  | .ok (i, _) => some i
  | .error _ => none

end Sys2Proof
end

