-- ==== Sys2Proof/Config.lean ====
section
/-! DEFINITION. The two open parameters of the hardware (00_scope.md R7). -/

namespace Sys2Proof

/-- `HALT_MODE` (00_scope.md R7; 92_eei_decisions.md D5): what HALT and STOP do.
DESIGN CHOICE (log entry 1, safe): the parameter is carried in `State`, so a claim about every state
holds for both values. -/
inductive HaltMode where
  | terminal
  | nop
  deriving DecidableEq, Repr

/-- The parameters a launch takes: `HALT_MODE`, and `INIT_MEM`, the byte every address holds that the
launch snapshot does not list (00_scope.md R7; 92_eei_decisions.md D14). -/
structure Config where
  haltMode : HaltMode
  initMem : Word → Byte

end Sys2Proof
end

