-- ==== Sys2Proof/Machine/State.lean ====
section
/-! DEFINITION. The architectural state (10_state.md R30), the reasons a step can stop, and the state after reset. -/

namespace Sys2Proof.Machine

/-- F: four Booleans (10_state.md R32). Its byte view is `flagsToByte` (R33). -/
structure Flags where
  z : Bool
  n : Bool
  h : Bool
  c : Bool
  deriving DecidableEq, Repr

/-- What a DecodeError records (60_exceptions.md R370): the address of the opcode and the opcode. -/
structure DecodeError where
  addr : Word
  opcode : Byte
  deriving DecidableEq, Repr

/-- The run status (10_state.md R40). -/
inductive RunStatus where
  | running
  | halted
  | stopped
  | faulted (info : DecodeError)
  deriving DecidableEq, Repr

/-- MEM (10_state.md R38), as the bytes that differ from what an unlisted address reads as, by rising
address. `Memory.wf` is the form, `Memory.unlisted` the byte (log entry 2). -/
abbrev Memory := List Host.Cell

/-- The state of the CPU: exactly the elements of 10_state.md R30, and the parameter `HALT_MODE`
(log entry 1). The pairs AF, BC, DE, HL are views (R34) and have no field. -/
structure State where
  /-- The general registers (R31). -/
  a : Byte
  b : Byte
  c : Byte
  d : Byte
  e : Byte
  h : Byte
  l : Byte
  /-- The flags (R32). -/
  f : Flags
  /-- The stack pointer (R36). -/
  sp : Word
  /-- The program counter (R37). -/
  pc : Word
  /-- MEM (R38). -/
  mem : Memory
  /-- The snapshot cells (R39). -/
  ime : Byte
  ie : Byte
  ei : Byte
  /-- The run status (R40). -/
  status : RunStatus
  /-- The parameter `HALT_MODE` (00_scope.md R7). No instruction writes it. -/
  haltMode : HaltMode
  deriving DecidableEq, Repr

/-- Why the machine stops. Each is raised by `step` alone, and never by an instruction: only Running has a
step (10_state.md R40), so a step asked for in another status is a stuck state (93_implementation_defined.md
U9; log entry 6). Safe: nothing runs on where the hardware stops. -/
inductive Fault where
  /-- Raised by `step` when the status is Halted. Safe. -/
  | halted
  /-- Raised by `step` when the status is Stopped. Safe. -/
  | stopped
  /-- Raised by `step` when the status is Faulted, with what the DecodeError recorded. Safe. -/
  | faulted (info : DecodeError)
  deriving DecidableEq, Repr

/-- Why an instruction has no meaning. -/
inductive Refusal where
  /-- Raised by an arm of `exec` whose instruction has no meaning yet: no arm does. Safe. -/
  | notModelled (mnemonic : String)
  deriving DecidableEq, Repr

/-- What an instruction or a step answers. -/
abbrev Result := Host.Outcome State Fault Refusal

/-- The CPU right after its creation (70_reset_and_hazards.md R400): status Running, memory as `INIT_MEM`
gives it, nothing listed. The spec gives no register, F, SP, PC or cell a value before the first snapshot load
(10_state.md R46). DESIGN CHOICE (log entry 3, unsafe): each is zero here. DESIGN CHOICE (log entry 1, safe):
`haltMode` is the parameter's default, `terminal`. -/
def State.reset : State where
  a := 0
  b := 0
  c := 0
  d := 0
  e := 0
  h := 0
  l := 0
  f := { z := false, n := false, h := false, c := false }
  sp := 0
  pc := 0
  mem := []
  ime := 0
  ie := 0
  ei := 0
  status := .running
  haltMode := .terminal

end Sys2Proof.Machine
end

