-- ==== Sys2Proof/Machine/Flags.lean ====
section
/-! DEFINITION. The byte view of F (10_state.md R33), the conditions (44_control.md R240), and every result and
flag computation of the 8-bit, 16-bit, rotate and bit instructions, in mathematical integers as 00_scope.md R9
asks: the operands are read as numbers, the exact result is computed, and it is narrowed at the end. -/

namespace Sys2Proof.Machine

/-! ## F as a byte -/

/-- A flag as the number 0 or 1. -/
def bitNat (x : Bool) : Nat := if x then 1 else 0

/-- A flag as the byte 0 or 1. -/
def bitByte (x : Bool) : Byte := if x then 1 else 0

/-- `flags_to_byte` (10_state.md R33). -/
def flagsToByte (f : Flags) : Byte :=
  (bitByte f.z <<< 7) ||| (bitByte f.n <<< 6) ||| (bitByte f.h <<< 5) ||| (bitByte f.c <<< 4)

/-- `byte_to_flags` (10_state.md R33): bits 3..0 are dropped. -/
def byteToFlags (b : Byte) : Flags :=
  { z := b.getLsbD 7, n := b.getLsbD 6, h := b.getLsbD 5, c := b.getLsbD 4 }

/-- `clear_all_flags` (10_state.md R33). -/
def Flags.clearAll (_ : Flags) : Flags :=
  { z := false, n := false, h := false, c := false }

/-- `cond(cc)` (44_control.md R240). -/
def condHolds : Cond → Flags → Bool
  | .nz, f => !f.z
  | .z, f => f.z
  | .nc, f => !f.c
  | .c, f => f.c

/-! ## The accumulator operations (40_alu8.md R131 to R138) -/

/-- `v & 0xF` as a number. -/
def lowNibble (v : Byte) : Nat := (v &&& 0xF).toNat

/-- An 8-bit sum with carry in: ADC (R132), and ADD (R131) with none. -/
def addBytes (a v : Byte) (cin : Nat) : Byte × Flags :=
  let s := a.toNat + v.toNat + cin
  (BitVec.ofNat 8 s,
    { z := decide (s % 256 = 0)
      n := false
      h := decide (lowNibble a + lowNibble v + cin > 0xF)
      c := decide (s > 0xFF) })

/-- An 8-bit difference with borrow in: SBC (R134), and SUB and CP (R133, R138) with none. -/
def subBytes (a v : Byte) (cin : Nat) : Byte × Flags :=
  let d : Int := (a.toNat : Int) - v.toNat - cin
  (BitVec.ofInt 8 d,
    { z := decide (d % 256 = 0)
      n := true
      h := decide ((lowNibble a : Int) - lowNibble v - cin < 0)
      c := decide (d < 0) })

/-- The flags of AND, XOR and OR (R135, R136, R137): `half` is what H becomes. -/
def logicFlags (r : Byte) (half : Bool) : Flags :=
  { z := decide (r = 0), n := false, h := half, c := false }

/-- What A and F become under an accumulator operation, from A, the operand and F (R131 to R138). CP keeps A. -/
def aluResult (op : AluOp) (a v : Byte) (f : Flags) : Byte × Flags :=
  match op with
  | .add => addBytes a v 0
  | .adc => addBytes a v (bitNat f.c)
  | .sub => subBytes a v 0
  | .sbc => subBytes a v (bitNat f.c)
  | .and => (a &&& v, logicFlags (a &&& v) true)
  | .xor => (a ^^^ v, logicFlags (a ^^^ v) false)
  | .or => (a ||| v, logicFlags (a ||| v) false)
  | .cp => (a, (subBytes a v 0).2)

/-! ## INC, DEC, DAA and the carry operations (40_alu8.md R139 to R144) -/

/-- INC r8 (R139). C is kept. -/
def incByte (old : Byte) (f : Flags) : Byte × Flags :=
  let new := old + 1
  (new, { z := decide (new = 0), n := false, h := decide (lowNibble old + 1 > 0xF), c := f.c })

/-- DEC r8 (R140). C is kept. -/
def decByte (old : Byte) (f : Flags) : Byte × Flags :=
  let new := old - 1
  (new, { z := decide (new = 0), n := true, h := decide ((lowNibble old : Int) - 1 < 0), c := f.c })

/-- DAA (R141). Both tests of the branch N = 0 read the original A. -/
def daaResult (a : Byte) (f : Flags) : Byte × Flags :=
  let low := if f.h || (!f.n && decide (lowNibble a > 0x9)) then 0x06 else 0
  let high := if f.c || (!f.n && decide (a.toNat > 0x99)) then 0x60 else 0
  let adj : Byte := low ||| high
  let r := if f.n then a - adj else a + adj
  (r, { z := decide (r = 0), n := f.n, h := false, c := f.c || (!f.n && decide (a.toNat > 0x99)) })

/-- CPL (R142). -/
def cplFlags (f : Flags) : Flags := { z := f.z, n := true, h := true, c := f.c }

/-- SCF (R143). -/
def scfFlags (f : Flags) : Flags := { z := f.z, n := false, h := false, c := true }

/-- CCF (R144). -/
def ccfFlags (f : Flags) : Flags := { z := f.z, n := false, h := false, c := !f.c }

/-! ## 16-bit arithmetic (41_alu16.md) -/

/-- ADD HL,rr (R170). Z is kept. -/
def addWords (h v : Word) (f : Flags) : Word × Flags :=
  let s := h.toNat + v.toNat
  (BitVec.ofNat 16 s,
    { z := f.z
      n := false
      h := decide ((h &&& 0xFFF).toNat + (v &&& 0xFFF).toNat > 0xFFF)
      c := decide (s > 0xFFFF) })

/-- `sext_16` (00_scope.md R10). -/
def sext16 (v : Byte) : Word := v.signExtend 16

/-- `zext_16` (00_scope.md R10). -/
def zext16 (v : Byte) : Word := v.zeroExtend 16

/-- SP plus a signed offset, and its flags, for ADD SP,e8 and LD HL,SP+e8 (R173, R174): H and C are the carries
out of bits 3 and 7 of the unsigned sum of SP's low byte and the offset byte. -/
def spPlusOffset (sp : Word) (o : Byte) : Word × Flags :=
  (sp + sext16 o,
    { z := false
      n := false
      h := decide ((sp &&& 0xF).toNat + lowNibble o > 0xF)
      c := decide ((sp &&& 0xFF).toNat + o.toNat > 0xFF) })

/-! ## Rotates, shifts and SWAP (42_rotate_shift.md) -/

/-- The result and the carry of a CB rotate, shift or SWAP of `v` with carry in `cin` (R195 to R202). -/
def rotResult (op : RotOp) (v : Byte) (cin : Bool) : Byte × Bool :=
  match op with
  | .rlc => ((v <<< 1) ||| bitByte (v.getLsbD 7), v.getLsbD 7)
  | .rrc => ((v >>> 1) ||| (bitByte (v.getLsbD 0) <<< 7), v.getLsbD 0)
  | .rl => ((v <<< 1) ||| bitByte cin, v.getLsbD 7)
  | .rr => ((v >>> 1) ||| (bitByte cin <<< 7), v.getLsbD 0)
  | .sla => (v <<< 1, v.getLsbD 7)
  | .sra => ((v >>> 1) ||| (v &&& 0x80), v.getLsbD 0)
  | .swap => ((v <<< 4) ||| (v >>> 4), false)
  | .srl => (v >>> 1, v.getLsbD 0)

/-- The flags of a CB rotate, shift or SWAP (R194). -/
def rotFlags (r : Byte) (carry : Bool) : Flags :=
  { z := decide (r = 0), n := false, h := false, c := carry }

/-- The CB operation an accumulator rotate computes A by (R190 to R193). -/
def accRotOp : AccRot → RotOp
  | .rlca => .rlc
  | .rrca => .rrc
  | .rla => .rl
  | .rra => .rr

/-- The flags of an accumulator rotate: Z is cleared whatever the result (R190 to R193). -/
def accRotFlags (carry : Bool) : Flags :=
  { z := false, n := false, h := false, c := carry }

/-! ## Bit operations (43_bit.md) -/

/-- BIT b,r (R220). C is kept. -/
def bitTestFlags (n : BitVec 3) (v : Byte) (f : Flags) : Flags :=
  { z := !v.getLsbD n.toNat, n := false, h := true, c := f.c }

/-- `1 << b`. -/
def bitMask (n : BitVec 3) : Byte := (1 : Byte) <<< n.toNat

/-- RES b,r (R221). -/
def resetBit (n : BitVec 3) (v : Byte) : Byte := v &&& ~~~(bitMask n)

/-- SET b,r (R222). -/
def setBit (n : BitVec 3) (v : Byte) : Byte := v ||| bitMask n

end Sys2Proof.Machine
end

