-- ==== Sys2Proof/Machine/Ops.lean ====
section
/-! DEFINITION. The named operations over memory and registers, the stack, the program counter, the EI delay,
fetching an instruction, and taking the one exception. -/

namespace Sys2Proof.Machine

/-! ## Memory (20_memory.md R60, R61) -/

/-- What an address reads as that no entry lists. DESIGN CHOICE (log entry 2, unsafe): the spec gives
`INIT_MEM`, a parameter; the launch writes it out as entries (`Memory.ofInit`). -/
def Memory.unlisted : Byte := 0

/-- The addresses of a memory rise strictly, all of them above `low`'s predecessor (`low ≤` the first),
stay below 65536, and no entry equals `Memory.unlisted`. -/
def Memory.wfFrom : Nat → Memory → Bool
  | _, [] => true
  | low, (k, v) :: m =>
    decide (low ≤ k) && decide (k < 65536) && decide (v ≠ Memory.unlisted) && Memory.wfFrom (k + 1) m

/-- The canonical form: equal memories are equal lists. -/
def Memory.wf (m : Memory) : Bool := Memory.wfFrom 0 m

/-- `MemRead(addr, 1)` (00_scope.md R12; 20_memory.md R61). -/
def Memory.read (addr : Nat) : Memory → Byte
  | [] => Memory.unlisted
  | (k, v) :: m => if addr = k then v else Memory.read addr m

/-- Puts an entry in front, unless it says what an unlisted address reads as. -/
def Memory.consEntry (k : Nat) (v : Byte) (m : Memory) : Memory :=
  if v = Memory.unlisted then m else (k, v) :: m

/-- `MemWrite(addr, 1, v)` (00_scope.md R12; 20_memory.md R61), keeping the canonical form. -/
def Memory.write (addr : Nat) (v : Byte) : Memory → Memory
  | [] => Memory.consEntry addr v []
  | (k, w) :: m =>
    if addr < k then Memory.consEntry addr v ((k, w) :: m)
    else if addr = k then Memory.consEntry addr v m
    else (k, w) :: Memory.write addr v m

/-- The bytes `INIT_MEM` gives the addresses below `n`, put in front of `m` (92_eei_decisions.md D14). -/
def Memory.ofInitBelow (initMem : Word → Byte) : Nat → Memory → Memory
  | 0, m => m
  | n + 1, m => Memory.ofInitBelow initMem n (Memory.consEntry n (initMem (BitVec.ofNat 16 n)) m)

/-- The memory every byte of which is what `INIT_MEM` gives (70_reset_and_hazards.md R400). Irreducible, so that
no proof unfolds 65536 writes by accident. -/
@[irreducible] def Memory.ofInit (initMem : Word → Byte) : Memory := Memory.ofInitBelow initMem 65536 []

/-- `MemRead(addr, 1)` in a state. -/
def State.read (s : State) (addr : Word) : Byte := s.mem.read addr.toNat

/-- `MemWrite(addr, 1, v)` in a state. -/
def State.write (s : State) (addr : Word) (v : Byte) : State :=
  { s with mem := s.mem.write addr.toNat v }

/-- `MemRead(addr, 2)`: little-endian, the second address modulo 65536 (00_scope.md R12). -/
def State.read16 (s : State) (addr : Word) : Word :=
  concatBytes (s.read (addr + 1)) (s.read addr)

/-- The bytes of a list at consecutive addresses modulo 65536. -/
def State.writeBytes (s : State) (addr : Word) : List Byte → State
  | [] => s
  | v :: vs => (s.write addr v).writeBytes (addr + 1) vs

/-! ## Registers (10_state.md R31 to R37) -/

/-- `x[r]` (00_scope.md R11). -/
def State.reg (s : State) : Reg8 → Byte
  | .b => s.b
  | .c => s.c
  | .d => s.d
  | .e => s.e
  | .h => s.h
  | .l => s.l
  | .a => s.a

/-- `x[r] <- v` (00_scope.md R11). -/
def State.setReg (s : State) (r : Reg8) (v : Byte) : State :=
  match r with
  | .b => { s with b := v }
  | .c => { s with c := v }
  | .d => { s with d := v }
  | .e => { s with e := v }
  | .h => { s with h := v }
  | .l => { s with l := v }
  | .a => { s with a := v }

/-- `F <- v`. -/
def State.setFlags (s : State) (v : Flags) : State := { s with f := v }

/-- `x[SP] <- v`. -/
def State.setSp (s : State) (v : Word) : State := { s with sp := v }

/-- `PC <- v` (10_state.md R37). -/
def State.setPc (s : State) (v : Word) : State := { s with pc := v }

/-- `ime <- v` (10_state.md R39). -/
def State.setIme (s : State) (v : Byte) : State := { s with ime := v }

/-- `ei <- v` (10_state.md R39). -/
def State.setEi (s : State) (v : Byte) : State := { s with ei := v }

/-- `status <- v` (10_state.md R40). -/
def State.setStatus (s : State) (v : RunStatus) : State := { s with status := v }

/-- A `next_pc` of `pc + n`: what an instruction of `n` bytes that transfers no control returns (R37). -/
def State.advance (s : State) (n : Word) : State := s.setPc (s.pc + n)

/-! ## Pair views (10_state.md R34) -/

/-- `x[rr]` for the r16 pairs. -/
def State.pair (s : State) : Pair → Word
  | .bc => concatBytes s.b s.c
  | .de => concatBytes s.d s.e
  | .hl => concatBytes s.h s.l
  | .sp => s.sp

/-- `x[rr] <- v` for the r16 pairs: the two register writes. -/
def State.setPair (s : State) (p : Pair) (v : Word) : State :=
  match p with
  | .bc => (s.setReg .b (highByte v)).setReg .c (lowByte v)
  | .de => (s.setReg .d (highByte v)).setReg .e (lowByte v)
  | .hl => (s.setReg .h (highByte v)).setReg .l (lowByte v)
  | .sp => s.setSp v

/-- `x[HL]`. -/
def State.hl (s : State) : Word := s.pair .hl

/-- `x[rr]` for the stack pairs: AF is `x[A] : flags_to_byte(F)`. -/
def State.stkPair (s : State) : StkPair → Word
  | .bc => s.pair .bc
  | .de => s.pair .de
  | .hl => s.pair .hl
  | .af => concatBytes s.a (flagsToByte s.f)

/-- `x[rr] <- v` for the stack pairs: AF drops bits 3..0. -/
def State.setStkPair (s : State) (p : StkPair) (v : Word) : State :=
  match p with
  | .bc => s.setPair .bc v
  | .de => s.setPair .de v
  | .hl => s.setPair .hl v
  | .af => (s.setReg .a (highByte v)).setFlags (byteToFlags (lowByte v))

/-! ## The stack (44_control.md R252, R253) -/

/-- `push16(v)` (R252): the high byte first. -/
def State.push16 (s : State) (v : Word) : State :=
  let s1 := s.setSp (s.sp - 1)
  let s2 := s1.write s1.sp (highByte v)
  let s3 := s2.setSp (s2.sp - 1)
  s3.write s3.sp (lowByte v)

/-- The value of `pop16()` (R253): the low byte at SP, the high byte after it. -/
def State.stackTop (s : State) : Word := s.read16 s.sp

/-- The effect of `pop16()` on the state (R253): SP is 2 more. -/
def State.dropStack (s : State) : State := (s.setSp (s.sp + 1)).setSp (s.sp + 1 + 1)

/-! ## Fetching (30_encoding.md R90; 20_memory.md R66) -/

/-- The opcode byte at PC. -/
def State.opcode (s : State) : Byte := s.read s.pc

/-- The decoded instruction, `none` where the table has no entry. The byte after the opcode is looked at only
behind the prefix (log entry 12). -/
def State.fetchEntry (s : State) : Option Instr := decodeEntry s.opcode (s.read (s.pc + 1))

/-- The bytes the longest instruction at PC would have. -/
def State.fetchBytes (s : State) : List Byte := [s.read s.pc, s.read (s.pc + 1), s.read (s.pc + 2)]

/-- The EI delay (30_encoding.md R90; 47_misc.md R344): what `step` does between decoding and executing. -/
def State.promoteEi (s : State) : State :=
  if s.ei ≠ 0 then (s.setIme 1).setEi 0 else s

/-! ## Taking the exception, and returning -/

/-- DecodeError entry (60_exceptions.md R371): the run status records PC and the opcode, nothing else changes.
There is no vector and no handler (R372). -/
def State.raiseDecodeError (s : State) (op : Byte) : State :=
  s.setStatus (.faulted { addr := s.pc, opcode := op })

/-- `pc <- pop16()`: the return of RET and RET cc (44_control.md R248, R249). There is no trap return
(60_exceptions.md R375). -/
def State.returnFromCall (s : State) : State := s.dropStack.setPc s.stackTop

/-- RETI: the same return, then `ime <- 1` (44_control.md R250). -/
def State.returnAndEnable (s : State) : State := s.returnFromCall.setIme 1

end Sys2Proof.Machine
end

