-- ==== Sys2Proof/Machine/Operands.lean ====
section
/-! DEFINITION. Every operand form (30_encoding.md R102, R103), resolved at execute time against the current
registers and memory (00_scope.md R15). -/

namespace Sys2Proof.Machine

/-! ## Immediates (30_encoding.md R102; 00_scope.md R13) -/

/-- `n8`: the byte at PC+1. -/
def State.imm8 (s : State) : Byte := s.read (s.pc + 1)

/-- `n16` and `a16`: the little-endian word at PC+1. -/
def State.imm16 (s : State) : Word := s.read16 (s.pc + 1)

/-- `e8`, sign-extended. -/
def State.immE8 (s : State) : Word := sext16 s.imm8

/-! ## Locations -/

/-- `read(loc)` (00_scope.md R15). -/
def State.readLoc (s : State) : Loc8 → Byte
  | .b => s.reg .b
  | .c => s.reg .c
  | .d => s.reg .d
  | .e => s.reg .e
  | .h => s.reg .h
  | .l => s.reg .l
  | .indHl => s.read s.hl
  | .a => s.reg .a

/-- `write(loc, v)` (00_scope.md R15). -/
def State.writeLoc (s : State) (x : Loc8) (v : Byte) : State :=
  match x with
  | .b => s.setReg .b v
  | .c => s.setReg .c v
  | .d => s.setReg .d v
  | .e => s.setReg .e v
  | .h => s.setReg .h v
  | .l => s.setReg .l v
  | .indHl => s.write s.hl v
  | .a => s.setReg .a v

/-- The second operand of an accumulator operation (40_alu8.md R130). -/
def State.aluOperand (s : State) : AluSrc → Byte
  | .reg r => s.reg r
  | .indHl => s.read s.hl
  | .n8 => s.imm8

/-- The length of an accumulator operation with that operand (40_alu8.md R130). -/
def aluLength : AluSrc → Word
  | .reg _ => 1
  | .indHl => 1
  | .n8 => 2

/-! ## Addresses (30_encoding.md R103) -/

/-- The address of `(BC)`, `(DE)`, `(HL+)` and `(HL-)`: the last two use the old HL. -/
def State.memModeAddr (s : State) : MemMode → Word
  | .bc => s.pair .bc
  | .de => s.pair .de
  | .hli => s.hl
  | .hld => s.hl

/-- What the mode does after the access: HL+1, HL-1, or nothing (90_conflicts.md C9). -/
def State.memModeStep (s : State) : MemMode → State
  | .bc => s
  | .de => s
  | .hli => s.setPair .hl (s.hl + 1)
  | .hld => s.setPair .hl (s.hl - 1)

/-- The high-page address of an offset: `0xFF00 + zext_16(v)`. -/
def highPage (v : Byte) : Word := 0xFF00 + zext16 v

/-- The address of `(a8)`. -/
def State.immHighPage (s : State) : Word := highPage s.imm8

/-- The address of `(C)`. -/
def State.cHighPage (s : State) : Word := highPage s.c

end Sys2Proof.Machine
end

