-- ==== Sys2Proof/Machine/Alu16.lean ====
section
/-! DEFINITION. 16-bit arithmetic (41_alu16.md). -/

namespace Sys2Proof.Machine

/-- ADD HL,rr (R170). -/
def addToHl (p : Pair) (s : State) : Result :=
  let r := addWords s.hl (s.pair p) s.f
  .next (((s.setPair .hl r.1).setFlags r.2).advance 1)

/-- INC rr (R171): no flag is written. -/
def incrementPair (p : Pair) (s : State) : Result :=
  .next ((s.setPair p (s.pair p + 1)).advance 1)

/-- DEC rr (R172): no flag is written. -/
def decrementPair (p : Pair) (s : State) : Result :=
  .next ((s.setPair p (s.pair p - 1)).advance 1)

/-- SP plus e8 into `dst`, with the flags of R173 and R174. -/
def spOffsetInto (dst : Pair) (s : State) : Result :=
  let r := spPlusOffset s.sp s.imm8
  .next (((s.setPair dst r.1).setFlags r.2).advance 2)

/-- INC BC (R171). -/
def execIncBc (s : State) : Result := incrementPair .bc s

/-- ADD HL,BC (R170). -/
def execAddHlBc (s : State) : Result := addToHl .bc s

/-- DEC BC (R172). -/
def execDecBc (s : State) : Result := decrementPair .bc s

/-- INC DE (R171). -/
def execIncDe (s : State) : Result := incrementPair .de s

/-- ADD HL,DE (R170). -/
def execAddHlDe (s : State) : Result := addToHl .de s

/-- DEC DE (R172). -/
def execDecDe (s : State) : Result := decrementPair .de s

/-- INC HL (R171). -/
def execIncHl (s : State) : Result := incrementPair .hl s

/-- ADD HL,HL (R170). -/
def execAddHlHl (s : State) : Result := addToHl .hl s

/-- DEC HL (R172). -/
def execDecHl (s : State) : Result := decrementPair .hl s

/-- INC SP (R171). -/
def execIncSp (s : State) : Result := incrementPair .sp s

/-- ADD HL,SP (R170). -/
def execAddHlSp (s : State) : Result := addToHl .sp s

/-- DEC SP (R172). -/
def execDecSp (s : State) : Result := decrementPair .sp s

/-- ADD SP,e8 (R173). -/
def execAddSpE8 (s : State) : Result := spOffsetInto .sp s

/-- LD HL,SP+e8 (R174). -/
def execLdHlSpE8 (s : State) : Result := spOffsetInto .hl s

end Sys2Proof.Machine
end

