-- ==== Sys2Proof/Machine/Alu8.lean ====
section
/-! DEFINITION. 8-bit arithmetic and logic (40_alu8.md). -/

namespace Sys2Proof.Machine

/-- An accumulator operation (40_alu8.md R130 to R138): the operand is read once, before A is written. -/
def accumulatorOp (op : AluOp) (src : AluSrc) (s : State) : Result :=
  let r := aluResult op s.a (s.aluOperand src) s.f
  .next (((s.setReg .a r.1).setFlags r.2).advance (aluLength src))

/-- INC r8 (R139): a read-modify-write of the location. -/
def incrementLoc (x : Loc8) (s : State) : Result :=
  let r := incByte (s.readLoc x) s.f
  .next (((s.writeLoc x r.1).setFlags r.2).advance 1)

/-- DEC r8 (R140): a read-modify-write of the location. -/
def decrementLoc (x : Loc8) (s : State) : Result :=
  let r := decByte (s.readLoc x) s.f
  .next (((s.writeLoc x r.1).setFlags r.2).advance 1)

/-- INC B (R139). -/
def execIncB (s : State) : Result := incrementLoc .b s

/-- DEC B (R140). -/
def execDecB (s : State) : Result := decrementLoc .b s

/-- INC C (R139). -/
def execIncC (s : State) : Result := incrementLoc .c s

/-- DEC C (R140). -/
def execDecC (s : State) : Result := decrementLoc .c s

/-- INC D (R139). -/
def execIncD (s : State) : Result := incrementLoc .d s

/-- DEC D (R140). -/
def execDecD (s : State) : Result := decrementLoc .d s

/-- INC E (R139). -/
def execIncE (s : State) : Result := incrementLoc .e s

/-- DEC E (R140). -/
def execDecE (s : State) : Result := decrementLoc .e s

/-- INC H (R139). -/
def execIncH (s : State) : Result := incrementLoc .h s

/-- DEC H (R140). -/
def execDecH (s : State) : Result := decrementLoc .h s

/-- DAA (R141). -/
def execDaa (s : State) : Result :=
  let r := daaResult s.a s.f
  .next (((s.setReg .a r.1).setFlags r.2).advance 1)

/-- INC L (R139). -/
def execIncL (s : State) : Result := incrementLoc .l s

/-- DEC L (R140). -/
def execDecL (s : State) : Result := decrementLoc .l s

/-- CPL (R142). -/
def execCpl (s : State) : Result :=
  .next (((s.setReg .a (~~~s.a)).setFlags (cplFlags s.f)).advance 1)

/-- INC (HL) (R139). -/
def execIncIndHl (s : State) : Result := incrementLoc .indHl s

/-- DEC (HL) (R140). -/
def execDecIndHl (s : State) : Result := decrementLoc .indHl s

/-- SCF (R143). -/
def execScf (s : State) : Result := .next ((s.setFlags (scfFlags s.f)).advance 1)

/-- INC A (R139). -/
def execIncA (s : State) : Result := incrementLoc .a s

/-- DEC A (R140). -/
def execDecA (s : State) : Result := decrementLoc .a s

/-- CCF (R144). -/
def execCcf (s : State) : Result := .next ((s.setFlags (ccfFlags s.f)).advance 1)

/-- ADD A,B (R131). -/
def execAddAB (s : State) : Result := accumulatorOp .add (.reg .b) s

/-- ADD A,C (R131). -/
def execAddAC (s : State) : Result := accumulatorOp .add (.reg .c) s

/-- ADD A,D (R131). -/
def execAddAD (s : State) : Result := accumulatorOp .add (.reg .d) s

/-- ADD A,E (R131). -/
def execAddAE (s : State) : Result := accumulatorOp .add (.reg .e) s

/-- ADD A,H (R131). -/
def execAddAH (s : State) : Result := accumulatorOp .add (.reg .h) s

/-- ADD A,L (R131). -/
def execAddAL (s : State) : Result := accumulatorOp .add (.reg .l) s

/-- ADD A,(HL) (R131). -/
def execAddAIndHl (s : State) : Result := accumulatorOp .add .indHl s

/-- ADD A,A (R131). -/
def execAddAA (s : State) : Result := accumulatorOp .add (.reg .a) s

/-- ADC A,B (R132). -/
def execAdcAB (s : State) : Result := accumulatorOp .adc (.reg .b) s

/-- ADC A,C (R132). -/
def execAdcAC (s : State) : Result := accumulatorOp .adc (.reg .c) s

/-- ADC A,D (R132). -/
def execAdcAD (s : State) : Result := accumulatorOp .adc (.reg .d) s

/-- ADC A,E (R132). -/
def execAdcAE (s : State) : Result := accumulatorOp .adc (.reg .e) s

/-- ADC A,H (R132). -/
def execAdcAH (s : State) : Result := accumulatorOp .adc (.reg .h) s

/-- ADC A,L (R132). -/
def execAdcAL (s : State) : Result := accumulatorOp .adc (.reg .l) s

/-- ADC A,(HL) (R132). -/
def execAdcAIndHl (s : State) : Result := accumulatorOp .adc .indHl s

/-- ADC A,A (R132). -/
def execAdcAA (s : State) : Result := accumulatorOp .adc (.reg .a) s

/-- SUB A,B (R133). -/
def execSubAB (s : State) : Result := accumulatorOp .sub (.reg .b) s

/-- SUB A,C (R133). -/
def execSubAC (s : State) : Result := accumulatorOp .sub (.reg .c) s

/-- SUB A,D (R133). -/
def execSubAD (s : State) : Result := accumulatorOp .sub (.reg .d) s

/-- SUB A,E (R133). -/
def execSubAE (s : State) : Result := accumulatorOp .sub (.reg .e) s

/-- SUB A,H (R133). -/
def execSubAH (s : State) : Result := accumulatorOp .sub (.reg .h) s

/-- SUB A,L (R133). -/
def execSubAL (s : State) : Result := accumulatorOp .sub (.reg .l) s

/-- SUB A,(HL) (R133). -/
def execSubAIndHl (s : State) : Result := accumulatorOp .sub .indHl s

/-- SUB A,A (R133). -/
def execSubAA (s : State) : Result := accumulatorOp .sub (.reg .a) s

/-- SBC A,B (R134). -/
def execSbcAB (s : State) : Result := accumulatorOp .sbc (.reg .b) s

/-- SBC A,C (R134). -/
def execSbcAC (s : State) : Result := accumulatorOp .sbc (.reg .c) s

/-- SBC A,D (R134). -/
def execSbcAD (s : State) : Result := accumulatorOp .sbc (.reg .d) s

/-- SBC A,E (R134). -/
def execSbcAE (s : State) : Result := accumulatorOp .sbc (.reg .e) s

/-- SBC A,H (R134). -/
def execSbcAH (s : State) : Result := accumulatorOp .sbc (.reg .h) s

/-- SBC A,L (R134). -/
def execSbcAL (s : State) : Result := accumulatorOp .sbc (.reg .l) s

/-- SBC A,(HL) (R134). -/
def execSbcAIndHl (s : State) : Result := accumulatorOp .sbc .indHl s

/-- SBC A,A (R134). -/
def execSbcAA (s : State) : Result := accumulatorOp .sbc (.reg .a) s

/-- AND A,B (R135). -/
def execAndAB (s : State) : Result := accumulatorOp .and (.reg .b) s

/-- AND A,C (R135). -/
def execAndAC (s : State) : Result := accumulatorOp .and (.reg .c) s

/-- AND A,D (R135). -/
def execAndAD (s : State) : Result := accumulatorOp .and (.reg .d) s

/-- AND A,E (R135). -/
def execAndAE (s : State) : Result := accumulatorOp .and (.reg .e) s

/-- AND A,H (R135). -/
def execAndAH (s : State) : Result := accumulatorOp .and (.reg .h) s

/-- AND A,L (R135). -/
def execAndAL (s : State) : Result := accumulatorOp .and (.reg .l) s

/-- AND A,(HL) (R135). -/
def execAndAIndHl (s : State) : Result := accumulatorOp .and .indHl s

/-- AND A,A (R135). -/
def execAndAA (s : State) : Result := accumulatorOp .and (.reg .a) s

/-- XOR A,B (R136). -/
def execXorAB (s : State) : Result := accumulatorOp .xor (.reg .b) s

/-- XOR A,C (R136). -/
def execXorAC (s : State) : Result := accumulatorOp .xor (.reg .c) s

/-- XOR A,D (R136). -/
def execXorAD (s : State) : Result := accumulatorOp .xor (.reg .d) s

/-- XOR A,E (R136). -/
def execXorAE (s : State) : Result := accumulatorOp .xor (.reg .e) s

/-- XOR A,H (R136). -/
def execXorAH (s : State) : Result := accumulatorOp .xor (.reg .h) s

/-- XOR A,L (R136). -/
def execXorAL (s : State) : Result := accumulatorOp .xor (.reg .l) s

/-- XOR A,(HL) (R136). -/
def execXorAIndHl (s : State) : Result := accumulatorOp .xor .indHl s

/-- XOR A,A (R136). -/
def execXorAA (s : State) : Result := accumulatorOp .xor (.reg .a) s

/-- OR A,B (R137). -/
def execOrAB (s : State) : Result := accumulatorOp .or (.reg .b) s

/-- OR A,C (R137). -/
def execOrAC (s : State) : Result := accumulatorOp .or (.reg .c) s

/-- OR A,D (R137). -/
def execOrAD (s : State) : Result := accumulatorOp .or (.reg .d) s

/-- OR A,E (R137). -/
def execOrAE (s : State) : Result := accumulatorOp .or (.reg .e) s

/-- OR A,H (R137). -/
def execOrAH (s : State) : Result := accumulatorOp .or (.reg .h) s

/-- OR A,L (R137). -/
def execOrAL (s : State) : Result := accumulatorOp .or (.reg .l) s

/-- OR A,(HL) (R137). -/
def execOrAIndHl (s : State) : Result := accumulatorOp .or .indHl s

/-- OR A,A (R137). -/
def execOrAA (s : State) : Result := accumulatorOp .or (.reg .a) s

/-- CP A,B (R138). -/
def execCpAB (s : State) : Result := accumulatorOp .cp (.reg .b) s

/-- CP A,C (R138). -/
def execCpAC (s : State) : Result := accumulatorOp .cp (.reg .c) s

/-- CP A,D (R138). -/
def execCpAD (s : State) : Result := accumulatorOp .cp (.reg .d) s

/-- CP A,E (R138). -/
def execCpAE (s : State) : Result := accumulatorOp .cp (.reg .e) s

/-- CP A,H (R138). -/
def execCpAH (s : State) : Result := accumulatorOp .cp (.reg .h) s

/-- CP A,L (R138). -/
def execCpAL (s : State) : Result := accumulatorOp .cp (.reg .l) s

/-- CP A,(HL) (R138). -/
def execCpAIndHl (s : State) : Result := accumulatorOp .cp .indHl s

/-- CP A,A (R138). -/
def execCpAA (s : State) : Result := accumulatorOp .cp (.reg .a) s

/-- ADD A,n8 (R131). -/
def execAddAN8 (s : State) : Result := accumulatorOp .add .n8 s

/-- ADC A,n8 (R132). -/
def execAdcAN8 (s : State) : Result := accumulatorOp .adc .n8 s

/-- SUB A,n8 (R133). -/
def execSubAN8 (s : State) : Result := accumulatorOp .sub .n8 s

/-- SBC A,n8 (R134). -/
def execSbcAN8 (s : State) : Result := accumulatorOp .sbc .n8 s

/-- AND A,n8 (R135). -/
def execAndAN8 (s : State) : Result := accumulatorOp .and .n8 s

/-- XOR A,n8 (R136). -/
def execXorAN8 (s : State) : Result := accumulatorOp .xor .n8 s

/-- OR A,n8 (R137). -/
def execOrAN8 (s : State) : Result := accumulatorOp .or .n8 s

/-- CP A,n8 (R138). -/
def execCpAN8 (s : State) : Result := accumulatorOp .cp .n8 s

end Sys2Proof.Machine
end

