-- ==== Sys2Proof/Machine/Control.lean ====
section
/-! DEFINITION. Control transfer and the stack (44_control.md). Every immediate is read before any stack write
(20_memory.md R74), and the condition before either. -/

namespace Sys2Proof.Machine

/-- JP cc,a16 (R242). -/
def jumpIf (cc : Cond) (s : State) : Result :=
  let t := s.imm16
  .next (if condHolds cc s.f then s.setPc t else s.advance 3)

/-- The target of a taken JR (R244). -/
def State.relativeTarget (s : State) : Word := s.pc + 2 + s.immE8

/-- JR cc,e8 (R245). -/
def jumpRelativeIf (cc : Cond) (s : State) : Result :=
  .next (if condHolds cc s.f then s.setPc s.relativeTarget else s.advance 2)

/-- The effect of a taken CALL (R246): the target is read before the push. -/
def State.callTarget (s : State) : State :=
  let t := s.imm16
  (s.push16 (s.pc + 3)).setPc t

/-- CALL cc,a16 (R247). -/
def callIf (cc : Cond) (s : State) : Result :=
  .next (if condHolds cc s.f then s.callTarget else s.advance 3)

/-- RET cc (R249). -/
def returnIf (cc : Cond) (s : State) : Result :=
  .next (if condHolds cc s.f then s.returnFromCall else s.advance 1)

/-- RST t (R251). -/
def restartAt (t : Byte) (s : State) : Result :=
  .next ((s.push16 (s.pc + 1)).setPc (zext16 t))

/-- PUSH rr (R254). -/
def pushPair (p : StkPair) (s : State) : Result :=
  .next ((s.push16 (s.stkPair p)).advance 1)

/-- POP rr (R255). -/
def popPair (p : StkPair) (s : State) : Result :=
  .next ((s.dropStack.setStkPair p s.stackTop).advance 1)

/-- JR e8 (R244). -/
def execJrE8 (s : State) : Result := .next (s.setPc s.relativeTarget)

/-- JR NZ,e8 (R245). -/
def execJrNzE8 (s : State) : Result := jumpRelativeIf .nz s

/-- JR Z,e8 (R245). -/
def execJrZE8 (s : State) : Result := jumpRelativeIf .z s

/-- JR NC,e8 (R245). -/
def execJrNcE8 (s : State) : Result := jumpRelativeIf .nc s

/-- JR C,e8 (R245). -/
def execJrCE8 (s : State) : Result := jumpRelativeIf .c s

/-- RET NZ (R249). -/
def execRetNz (s : State) : Result := returnIf .nz s

/-- POP BC (R255). -/
def execPopBc (s : State) : Result := popPair .bc s

/-- JP NZ,a16 (R242). -/
def execJpNzA16 (s : State) : Result := jumpIf .nz s

/-- JP a16 (R241). -/
def execJpA16 (s : State) : Result := .next (s.setPc s.imm16)

/-- CALL NZ,a16 (R247). -/
def execCallNzA16 (s : State) : Result := callIf .nz s

/-- PUSH BC (R254). -/
def execPushBc (s : State) : Result := pushPair .bc s

/-- RST $00 (R251). -/
def execRst00 (s : State) : Result := restartAt 0x00 s

/-- RET Z (R249). -/
def execRetZ (s : State) : Result := returnIf .z s

/-- RET (R248). -/
def execRet (s : State) : Result := .next s.returnFromCall

/-- JP Z,a16 (R242). -/
def execJpZA16 (s : State) : Result := jumpIf .z s

/-- CALL Z,a16 (R247). -/
def execCallZA16 (s : State) : Result := callIf .z s

/-- CALL a16 (R246). -/
def execCallA16 (s : State) : Result := .next s.callTarget

/-- RST $08 (R251). -/
def execRst08 (s : State) : Result := restartAt 0x08 s

/-- RET NC (R249). -/
def execRetNc (s : State) : Result := returnIf .nc s

/-- POP DE (R255). -/
def execPopDe (s : State) : Result := popPair .de s

/-- JP NC,a16 (R242). -/
def execJpNcA16 (s : State) : Result := jumpIf .nc s

/-- CALL NC,a16 (R247). -/
def execCallNcA16 (s : State) : Result := callIf .nc s

/-- PUSH DE (R254). -/
def execPushDe (s : State) : Result := pushPair .de s

/-- RST $10 (R251). -/
def execRst10 (s : State) : Result := restartAt 0x10 s

/-- RET C (R249). -/
def execRetC (s : State) : Result := returnIf .c s

/-- RETI (R250): `ime` is set at once, `ei` is not changed. -/
def execReti (s : State) : Result := .next s.returnAndEnable

/-- JP C,a16 (R242). -/
def execJpCA16 (s : State) : Result := jumpIf .c s

/-- CALL C,a16 (R247). -/
def execCallCA16 (s : State) : Result := callIf .c s

/-- RST $18 (R251). -/
def execRst18 (s : State) : Result := restartAt 0x18 s

/-- POP HL (R255). -/
def execPopHl (s : State) : Result := popPair .hl s

/-- PUSH HL (R254). -/
def execPushHl (s : State) : Result := pushPair .hl s

/-- RST $20 (R251). -/
def execRst20 (s : State) : Result := restartAt 0x20 s

/-- JP HL (R243): no memory is read at HL. -/
def execJpHl (s : State) : Result := .next (s.setPc s.hl)

/-- RST $28 (R251). -/
def execRst28 (s : State) : Result := restartAt 0x28 s

/-- POP AF (R255). -/
def execPopAf (s : State) : Result := popPair .af s

/-- PUSH AF (R254). -/
def execPushAf (s : State) : Result := pushPair .af s

/-- RST $30 (R251). -/
def execRst30 (s : State) : Result := restartAt 0x30 s

/-- RST $38 (R251). -/
def execRst38 (s : State) : Result := restartAt 0x38 s

end Sys2Proof.Machine
end

