-- ==== Sys2Proof/Machine/Load.lean ====
section
/-! DEFINITION. Loads and stores (45_load.md). No flag is written. -/

namespace Sys2Proof.Machine

/-- LD r,r' (R270). -/
def loadReg (dst src : Reg8) (s : State) : Result :=
  .next ((s.setReg dst (s.reg src)).advance 1)

/-- LD r,(HL) (R271): read with the old HL. -/
def loadRegFromHl (dst : Reg8) (s : State) : Result :=
  .next ((s.setReg dst (s.read s.hl)).advance 1)

/-- LD (HL),r (R272). -/
def storeRegAtHl (src : Reg8) (s : State) : Result :=
  .next ((s.write s.hl (s.reg src)).advance 1)

/-- LD r,n8 (R273). -/
def loadRegImm (dst : Reg8) (s : State) : Result :=
  .next ((s.setReg dst s.imm8).advance 2)

/-- LD (BC),A, LD (DE),A, LD (HL+),A and LD (HL-),A (R275, R277, R279): the store uses the old HL. -/
def storeAccIndirect (m : MemMode) (s : State) : Result :=
  .next (((s.write (s.memModeAddr m) s.a).memModeStep m).advance 1)

/-- LD A,(BC), LD A,(DE), LD A,(HL+) and LD A,(HL-) (R276, R278, R280): the load uses the old HL. -/
def loadAccIndirect (m : MemMode) (s : State) : Result :=
  .next (((s.setReg .a (s.read (s.memModeAddr m))).memModeStep m).advance 1)

/-- A store of A at `addr` by an instruction of `n` bytes (R281, R283, R285). -/
def storeAccAt (addr : Word) (n : Word) (s : State) : Result :=
  .next ((s.write addr s.a).advance n)

/-- A load of A from `addr` by an instruction of `n` bytes (R282, R284, R286). -/
def loadAccFrom (addr : Word) (n : Word) (s : State) : Result :=
  .next ((s.setReg .a (s.read addr)).advance n)

/-- LD rr,n16 (R287). -/
def loadPairImm (p : Pair) (s : State) : Result :=
  .next ((s.setPair p s.imm16).advance 3)

/-- LD BC,n16 (R287). -/
def execLdBcN16 (s : State) : Result := loadPairImm .bc s

/-- LD (BC),A (R275). -/
def execLdIndBcA (s : State) : Result := storeAccIndirect .bc s

/-- LD B,n8 (R273). -/
def execLdBN8 (s : State) : Result := loadRegImm .b s

/-- LD (a16),SP (R288): low byte first, the second address modulo 65536. -/
def execLdIndA16Sp (s : State) : Result :=
  let t := s.imm16
  .next (((s.write t (lowByte s.sp)).write (t + 1) (highByte s.sp)).advance 3)

/-- LD A,(BC) (R276). -/
def execLdAIndBc (s : State) : Result := loadAccIndirect .bc s

/-- LD C,n8 (R273). -/
def execLdCN8 (s : State) : Result := loadRegImm .c s

/-- LD DE,n16 (R287). -/
def execLdDeN16 (s : State) : Result := loadPairImm .de s

/-- LD (DE),A (R275). -/
def execLdIndDeA (s : State) : Result := storeAccIndirect .de s

/-- LD D,n8 (R273). -/
def execLdDN8 (s : State) : Result := loadRegImm .d s

/-- LD A,(DE) (R276). -/
def execLdAIndDe (s : State) : Result := loadAccIndirect .de s

/-- LD E,n8 (R273). -/
def execLdEN8 (s : State) : Result := loadRegImm .e s

/-- LD HL,n16 (R287). -/
def execLdHlN16 (s : State) : Result := loadPairImm .hl s

/-- LD (HL+),A (R277). -/
def execLdIndHliA (s : State) : Result := storeAccIndirect .hli s

/-- LD H,n8 (R273). -/
def execLdHN8 (s : State) : Result := loadRegImm .h s

/-- LD A,(HL+) (R278). -/
def execLdAIndHli (s : State) : Result := loadAccIndirect .hli s

/-- LD L,n8 (R273). -/
def execLdLN8 (s : State) : Result := loadRegImm .l s

/-- LD SP,n16 (R287). -/
def execLdSpN16 (s : State) : Result := loadPairImm .sp s

/-- LD (HL-),A (R279). -/
def execLdIndHldA (s : State) : Result := storeAccIndirect .hld s

/-- LD (HL),n8 (R274): the immediate is read before the store. -/
def execLdIndHlN8 (s : State) : Result := .next ((s.write s.hl s.imm8).advance 2)

/-- LD A,(HL-) (R280). -/
def execLdAIndHld (s : State) : Result := loadAccIndirect .hld s

/-- LD A,n8 (R273). -/
def execLdAN8 (s : State) : Result := loadRegImm .a s

/-- LD B,B (R270). -/
def execLdBB (s : State) : Result := loadReg .b .b s

/-- LD B,C (R270). -/
def execLdBC (s : State) : Result := loadReg .b .c s

/-- LD B,D (R270). -/
def execLdBD (s : State) : Result := loadReg .b .d s

/-- LD B,E (R270). -/
def execLdBE (s : State) : Result := loadReg .b .e s

/-- LD B,H (R270). -/
def execLdBH (s : State) : Result := loadReg .b .h s

/-- LD B,L (R270). -/
def execLdBL (s : State) : Result := loadReg .b .l s

/-- LD B,(HL) (R271). -/
def execLdBIndHl (s : State) : Result := loadRegFromHl .b s

/-- LD B,A (R270). -/
def execLdBA (s : State) : Result := loadReg .b .a s

/-- LD C,B (R270). -/
def execLdCB (s : State) : Result := loadReg .c .b s

/-- LD C,C (R270). -/
def execLdCC (s : State) : Result := loadReg .c .c s

/-- LD C,D (R270). -/
def execLdCD (s : State) : Result := loadReg .c .d s

/-- LD C,E (R270). -/
def execLdCE (s : State) : Result := loadReg .c .e s

/-- LD C,H (R270). -/
def execLdCH (s : State) : Result := loadReg .c .h s

/-- LD C,L (R270). -/
def execLdCL (s : State) : Result := loadReg .c .l s

/-- LD C,(HL) (R271). -/
def execLdCIndHl (s : State) : Result := loadRegFromHl .c s

/-- LD C,A (R270). -/
def execLdCA (s : State) : Result := loadReg .c .a s

/-- LD D,B (R270). -/
def execLdDB (s : State) : Result := loadReg .d .b s

/-- LD D,C (R270). -/
def execLdDC (s : State) : Result := loadReg .d .c s

/-- LD D,D (R270). -/
def execLdDD (s : State) : Result := loadReg .d .d s

/-- LD D,E (R270). -/
def execLdDE (s : State) : Result := loadReg .d .e s

/-- LD D,H (R270). -/
def execLdDH (s : State) : Result := loadReg .d .h s

/-- LD D,L (R270). -/
def execLdDL (s : State) : Result := loadReg .d .l s

/-- LD D,(HL) (R271). -/
def execLdDIndHl (s : State) : Result := loadRegFromHl .d s

/-- LD D,A (R270). -/
def execLdDA (s : State) : Result := loadReg .d .a s

/-- LD E,B (R270). -/
def execLdEB (s : State) : Result := loadReg .e .b s

/-- LD E,C (R270). -/
def execLdEC (s : State) : Result := loadReg .e .c s

/-- LD E,D (R270). -/
def execLdED (s : State) : Result := loadReg .e .d s

/-- LD E,E (R270). -/
def execLdEE (s : State) : Result := loadReg .e .e s

/-- LD E,H (R270). -/
def execLdEH (s : State) : Result := loadReg .e .h s

/-- LD E,L (R270). -/
def execLdEL (s : State) : Result := loadReg .e .l s

/-- LD E,(HL) (R271). -/
def execLdEIndHl (s : State) : Result := loadRegFromHl .e s

/-- LD E,A (R270). -/
def execLdEA (s : State) : Result := loadReg .e .a s

/-- LD H,B (R270). -/
def execLdHB (s : State) : Result := loadReg .h .b s

/-- LD H,C (R270). -/
def execLdHC (s : State) : Result := loadReg .h .c s

/-- LD H,D (R270). -/
def execLdHD (s : State) : Result := loadReg .h .d s

/-- LD H,E (R270). -/
def execLdHE (s : State) : Result := loadReg .h .e s

/-- LD H,H (R270). -/
def execLdHH (s : State) : Result := loadReg .h .h s

/-- LD H,L (R270). -/
def execLdHL (s : State) : Result := loadReg .h .l s

/-- LD H,(HL) (R271). -/
def execLdHIndHl (s : State) : Result := loadRegFromHl .h s

/-- LD H,A (R270). -/
def execLdHA (s : State) : Result := loadReg .h .a s

/-- LD L,B (R270). -/
def execLdLB (s : State) : Result := loadReg .l .b s

/-- LD L,C (R270). -/
def execLdLC (s : State) : Result := loadReg .l .c s

/-- LD L,D (R270). -/
def execLdLD (s : State) : Result := loadReg .l .d s

/-- LD L,E (R270). -/
def execLdLE (s : State) : Result := loadReg .l .e s

/-- LD L,H (R270). -/
def execLdLH (s : State) : Result := loadReg .l .h s

/-- LD L,L (R270). -/
def execLdLL (s : State) : Result := loadReg .l .l s

/-- LD L,(HL) (R271). -/
def execLdLIndHl (s : State) : Result := loadRegFromHl .l s

/-- LD L,A (R270). -/
def execLdLA (s : State) : Result := loadReg .l .a s

/-- LD (HL),B (R272). -/
def execLdIndHlB (s : State) : Result := storeRegAtHl .b s

/-- LD (HL),C (R272). -/
def execLdIndHlC (s : State) : Result := storeRegAtHl .c s

/-- LD (HL),D (R272). -/
def execLdIndHlD (s : State) : Result := storeRegAtHl .d s

/-- LD (HL),E (R272). -/
def execLdIndHlE (s : State) : Result := storeRegAtHl .e s

/-- LD (HL),H (R272). -/
def execLdIndHlH (s : State) : Result := storeRegAtHl .h s

/-- LD (HL),L (R272). -/
def execLdIndHlL (s : State) : Result := storeRegAtHl .l s

/-- LD (HL),A (R272). -/
def execLdIndHlA (s : State) : Result := storeRegAtHl .a s

/-- LD A,B (R270). -/
def execLdAB (s : State) : Result := loadReg .a .b s

/-- LD A,C (R270). -/
def execLdAC (s : State) : Result := loadReg .a .c s

/-- LD A,D (R270). -/
def execLdAD (s : State) : Result := loadReg .a .d s

/-- LD A,E (R270). -/
def execLdAE (s : State) : Result := loadReg .a .e s

/-- LD A,H (R270). -/
def execLdAH (s : State) : Result := loadReg .a .h s

/-- LD A,L (R270). -/
def execLdAL (s : State) : Result := loadReg .a .l s

/-- LD A,(HL) (R271). -/
def execLdAIndHl (s : State) : Result := loadRegFromHl .a s

/-- LD A,A (R270). -/
def execLdAA (s : State) : Result := loadReg .a .a s

/-- LDH (a8),A (R283). -/
def execLdhIndA8A (s : State) : Result := storeAccAt s.immHighPage 2 s

/-- LD (C),A (R285). -/
def execLdIndCA (s : State) : Result := storeAccAt s.cHighPage 1 s

/-- LD (a16),A (R281). -/
def execLdIndA16A (s : State) : Result := storeAccAt s.imm16 3 s

/-- LDH A,(a8) (R284). -/
def execLdhAIndA8 (s : State) : Result := loadAccFrom s.immHighPage 2 s

/-- LD A,(C) (R286). -/
def execLdAIndC (s : State) : Result := loadAccFrom s.cHighPage 1 s

/-- LD SP,HL (R289). -/
def execLdSpHl (s : State) : Result := .next ((s.setSp s.hl).advance 1)

/-- LD A,(a16) (R282). -/
def execLdAIndA16 (s : State) : Result := loadAccFrom s.imm16 3 s

end Sys2Proof.Machine
end

