-- ==== Sys2Proof/Machine/Bit.lean ====
section
/-! DEFINITION. Bit test, reset and set (43_bit.md). -/

namespace Sys2Proof.Machine

/-- BIT b,r (R220): nothing is written to the location. -/
def execBitBR (n : BitVec 3) (x : Loc8) (s : State) : Result :=
  .next ((s.setFlags (bitTestFlags n (s.readLoc x) s.f)).advance 2)

/-- RES b,r (R221). -/
def execResBR (n : BitVec 3) (x : Loc8) (s : State) : Result :=
  .next ((s.writeLoc x (resetBit n (s.readLoc x))).advance 2)

/-- SET b,r (R222). -/
def execSetBR (n : BitVec 3) (x : Loc8) (s : State) : Result :=
  .next ((s.writeLoc x (setBit n (s.readLoc x))).advance 2)

end Sys2Proof.Machine
end

