-- ==== Sys2Proof/Machine/RotateShift.lean ====
section
/-! DEFINITION. Rotates, shifts and SWAP (42_rotate_shift.md). -/

namespace Sys2Proof.Machine

/-- An accumulator rotate (R190 to R193): Z is cleared. -/
def rotateAccumulator (op : AccRot) (s : State) : Result :=
  let r := rotResult (accRotOp op) s.a s.f.c
  .next (((s.setReg .a r.1).setFlags (accRotFlags r.2)).advance 1)

/-- A CB rotate, shift or SWAP (R194): the location is read once and written once. -/
def rotateLoc (op : RotOp) (x : Loc8) (s : State) : Result :=
  let r := rotResult op (s.readLoc x) s.f.c
  .next (((s.writeLoc x r.1).setFlags (rotFlags r.1 r.2)).advance 2)

/-- RLCA (R190). -/
def execRlca (s : State) : Result := rotateAccumulator .rlca s

/-- RRCA (R191). -/
def execRrca (s : State) : Result := rotateAccumulator .rrca s

/-- RLA (R192). -/
def execRla (s : State) : Result := rotateAccumulator .rla s

/-- RRA (R193). -/
def execRra (s : State) : Result := rotateAccumulator .rra s

/-- RLC r (R195). -/
def execRlcR (x : Loc8) (s : State) : Result := rotateLoc .rlc x s

/-- RRC r (R196). -/
def execRrcR (x : Loc8) (s : State) : Result := rotateLoc .rrc x s

/-- RL r (R197). -/
def execRlR (x : Loc8) (s : State) : Result := rotateLoc .rl x s

/-- RR r (R198). -/
def execRrR (x : Loc8) (s : State) : Result := rotateLoc .rr x s

/-- SLA r (R199). -/
def execSlaR (x : Loc8) (s : State) : Result := rotateLoc .sla x s

/-- SRA r (R200). -/
def execSraR (x : Loc8) (s : State) : Result := rotateLoc .sra x s

/-- SWAP r (R201). -/
def execSwapR (x : Loc8) (s : State) : Result := rotateLoc .swap x s

/-- SRL r (R202). -/
def execSrlR (x : Loc8) (s : State) : Result := rotateLoc .srl x s

end Sys2Proof.Machine
end

