-- ==== Sys2Proof/Machine/Misc.lean ====
section
/-! DEFINITION. Control of the CPU (47_misc.md), the CB prefix (30_encoding.md R105) and the opcodes without a
table entry (60_exceptions.md R371). -/

namespace Sys2Proof.Machine

/-- HALT and STOP: under `HALT_MODE = terminal` the status changes, and in either mode PC moves past the
instruction's `n` bytes (47_misc.md R341, R342). -/
def enterPowerState (status : RunStatus) (n : Word) (s : State) : Result :=
  .next ((match s.haltMode with
    | .terminal => s.setStatus status
    | .nop => s).advance n)

/-- The instruction a CB table entry names (30_encoding.md R101, R105). -/
def execCbOp : CbOp → State → Result
  | .rot .rlc x, s => execRlcR x s
  | .rot .rrc x, s => execRrcR x s
  | .rot .rl x, s => execRlR x s
  | .rot .rr x, s => execRrR x s
  | .rot .sla x, s => execSlaR x s
  | .rot .sra x, s => execSraR x s
  | .rot .swap x, s => execSwapR x s
  | .rot .srl x, s => execSrlR x s
  | .bit n x, s => execBitBR n x s
  | .res n x, s => execResBR n x s
  | .set n x, s => execSetBR n x s

/-- NOP (R340). -/
def execNop (s : State) : Result := .next (s.advance 1)

/-- STOP (R342). -/
def execStop (s : State) : Result := enterPowerState .stopped 2 s

/-- HALT (R341). -/
def execHalt (s : State) : Result := enterPowerState .halted 1 s

/-- PREFIX CB (R105): the instruction of the CB table at the byte after the prefix (30_encoding.md R90; log entry 4). -/
def execPrefixCb (s : State) : Result := execCbOp (decodeCb (s.read (s.pc + 1))) s

/-- An opcode without a table entry raises DecodeError (R371): a next state whose status is Faulted (log entry 5). -/
def execNoTableEntry (op : Byte) (s : State) : Result := .next (s.raiseDecodeError op)

/-- DI (R343). -/
def execDi (s : State) : Result := .next (((s.setIme 0).setEi 0).advance 1)

/-- EI (R344): `ime` is not changed by EI itself. -/
def execEi (s : State) : Result := .next ((s.setEi 1).advance 1)

end Sys2Proof.Machine
end

