-- ==== Sys2Proof/Machine/Step.lean ====
section
/-! DEFINITION. One step of the machine (30_encoding.md R90), and the placing of an instruction where the next
step fetches. -/

namespace Sys2Proof.Machine

/-- `step()` (30_encoding.md R90). Only Running has a step (10_state.md R40); in the other statuses the machine is
stuck (log entry 6). The EI delay comes after decoding and before executing, and not before a DecodeError. -/
def step (s : State) : Host.Outcome State Fault Refusal :=
  match s.status with
  | .running =>
    match s.fetchEntry with
    | some i => exec i s.promoteEi
    | none => exec (.noTableEntry s.opcode) s
  | .halted => .fault .halted
  | .stopped => .fault .stopped
  | .faulted info => .fault (.faulted info)

/-- The state with an opcode-table word stored at PC, the bits above `nbits` zero up to the longest instruction,
and the status Running, so that the next step runs that instruction. It stands for the host's load of a program
(log entry 9). -/
def State.withFetchWord (s : State) (nbits w : Nat) : State :=
  (s.writeBytes s.pc (tableWordBytes nbits w)).setStatus .running

end Sys2Proof.Machine
end

