-- ==== Sys2Proof/Machine/Assembly.lean ====
section
/-! DEFINITION. The assembler syntax of 30_encoding.md R110 and R111: the spelling of each instruction, with `n8`,
`n16`, `e8`, `a8` and `a16` standing for the immediate, the other spellings a listing may use, and the operand of a JR
written as its target. Nothing in the machine reads it. -/

namespace Sys2Proof.Machine

/-- A location operand (R110). -/
def Loc8.spelling : Loc8 → String
  | .b => "B"
  | .c => "C"
  | .d => "D"
  | .e => "E"
  | .h => "H"
  | .l => "L"
  | .indHl => "(HL)"
  | .a => "A"

/-- A bit number 0..7 (R110). -/
def bitSpelling (n : BitVec 3) : String :=
  match n.toNat with
  | 0 => "0"
  | 1 => "1"
  | 2 => "2"
  | 3 => "3"
  | 4 => "4"
  | 5 => "5"
  | 6 => "6"
  | _ => "7"

/-- The spelling of an instruction: mnemonic, one space, operands separated by a comma, destination first (R110).
The empty cells of the map have none; the prefix has the name of its cell (R104). -/
def Instr.spelling : Instr → Option String
  | .noTableEntry _ => none
  | .nop => some "NOP"
  | .ldBcN16 => some "LD BC,n16"
  | .ldIndBcA => some "LD (BC),A"
  | .incBc => some "INC BC"
  | .incB => some "INC B"
  | .decB => some "DEC B"
  | .ldBN8 => some "LD B,n8"
  | .rlca => some "RLCA"
  | .ldIndA16Sp => some "LD (a16),SP"
  | .addHlBc => some "ADD HL,BC"
  | .ldAIndBc => some "LD A,(BC)"
  | .decBc => some "DEC BC"
  | .incC => some "INC C"
  | .decC => some "DEC C"
  | .ldCN8 => some "LD C,n8"
  | .rrca => some "RRCA"
  | .stop => some "STOP"
  | .ldDeN16 => some "LD DE,n16"
  | .ldIndDeA => some "LD (DE),A"
  | .incDe => some "INC DE"
  | .incD => some "INC D"
  | .decD => some "DEC D"
  | .ldDN8 => some "LD D,n8"
  | .rla => some "RLA"
  | .jrE8 => some "JR e8"
  | .addHlDe => some "ADD HL,DE"
  | .ldAIndDe => some "LD A,(DE)"
  | .decDe => some "DEC DE"
  | .incE => some "INC E"
  | .decE => some "DEC E"
  | .ldEN8 => some "LD E,n8"
  | .rra => some "RRA"
  | .jrNzE8 => some "JR NZ,e8"
  | .ldHlN16 => some "LD HL,n16"
  | .ldIndHliA => some "LD (HL+),A"
  | .incHl => some "INC HL"
  | .incH => some "INC H"
  | .decH => some "DEC H"
  | .ldHN8 => some "LD H,n8"
  | .daa => some "DAA"
  | .jrZE8 => some "JR Z,e8"
  | .addHlHl => some "ADD HL,HL"
  | .ldAIndHli => some "LD A,(HL+)"
  | .decHl => some "DEC HL"
  | .incL => some "INC L"
  | .decL => some "DEC L"
  | .ldLN8 => some "LD L,n8"
  | .cpl => some "CPL"
  | .jrNcE8 => some "JR NC,e8"
  | .ldSpN16 => some "LD SP,n16"
  | .ldIndHldA => some "LD (HL-),A"
  | .incSp => some "INC SP"
  | .incIndHl => some "INC (HL)"
  | .decIndHl => some "DEC (HL)"
  | .ldIndHlN8 => some "LD (HL),n8"
  | .scf => some "SCF"
  | .jrCE8 => some "JR C,e8"
  | .addHlSp => some "ADD HL,SP"
  | .ldAIndHld => some "LD A,(HL-)"
  | .decSp => some "DEC SP"
  | .incA => some "INC A"
  | .decA => some "DEC A"
  | .ldAN8 => some "LD A,n8"
  | .ccf => some "CCF"
  | .ldBB => some "LD B,B"
  | .ldBC => some "LD B,C"
  | .ldBD => some "LD B,D"
  | .ldBE => some "LD B,E"
  | .ldBH => some "LD B,H"
  | .ldBL => some "LD B,L"
  | .ldBIndHl => some "LD B,(HL)"
  | .ldBA => some "LD B,A"
  | .ldCB => some "LD C,B"
  | .ldCC => some "LD C,C"
  | .ldCD => some "LD C,D"
  | .ldCE => some "LD C,E"
  | .ldCH => some "LD C,H"
  | .ldCL => some "LD C,L"
  | .ldCIndHl => some "LD C,(HL)"
  | .ldCA => some "LD C,A"
  | .ldDB => some "LD D,B"
  | .ldDC => some "LD D,C"
  | .ldDD => some "LD D,D"
  | .ldDE => some "LD D,E"
  | .ldDH => some "LD D,H"
  | .ldDL => some "LD D,L"
  | .ldDIndHl => some "LD D,(HL)"
  | .ldDA => some "LD D,A"
  | .ldEB => some "LD E,B"
  | .ldEC => some "LD E,C"
  | .ldED => some "LD E,D"
  | .ldEE => some "LD E,E"
  | .ldEH => some "LD E,H"
  | .ldEL => some "LD E,L"
  | .ldEIndHl => some "LD E,(HL)"
  | .ldEA => some "LD E,A"
  | .ldHB => some "LD H,B"
  | .ldHC => some "LD H,C"
  | .ldHD => some "LD H,D"
  | .ldHE => some "LD H,E"
  | .ldHH => some "LD H,H"
  | .ldHL => some "LD H,L"
  | .ldHIndHl => some "LD H,(HL)"
  | .ldHA => some "LD H,A"
  | .ldLB => some "LD L,B"
  | .ldLC => some "LD L,C"
  | .ldLD => some "LD L,D"
  | .ldLE => some "LD L,E"
  | .ldLH => some "LD L,H"
  | .ldLL => some "LD L,L"
  | .ldLIndHl => some "LD L,(HL)"
  | .ldLA => some "LD L,A"
  | .ldIndHlB => some "LD (HL),B"
  | .ldIndHlC => some "LD (HL),C"
  | .ldIndHlD => some "LD (HL),D"
  | .ldIndHlE => some "LD (HL),E"
  | .ldIndHlH => some "LD (HL),H"
  | .ldIndHlL => some "LD (HL),L"
  | .halt => some "HALT"
  | .ldIndHlA => some "LD (HL),A"
  | .ldAB => some "LD A,B"
  | .ldAC => some "LD A,C"
  | .ldAD => some "LD A,D"
  | .ldAE => some "LD A,E"
  | .ldAH => some "LD A,H"
  | .ldAL => some "LD A,L"
  | .ldAIndHl => some "LD A,(HL)"
  | .ldAA => some "LD A,A"
  | .addAB => some "ADD A,B"
  | .addAC => some "ADD A,C"
  | .addAD => some "ADD A,D"
  | .addAE => some "ADD A,E"
  | .addAH => some "ADD A,H"
  | .addAL => some "ADD A,L"
  | .addAIndHl => some "ADD A,(HL)"
  | .addAA => some "ADD A,A"
  | .adcAB => some "ADC A,B"
  | .adcAC => some "ADC A,C"
  | .adcAD => some "ADC A,D"
  | .adcAE => some "ADC A,E"
  | .adcAH => some "ADC A,H"
  | .adcAL => some "ADC A,L"
  | .adcAIndHl => some "ADC A,(HL)"
  | .adcAA => some "ADC A,A"
  | .subAB => some "SUB A,B"
  | .subAC => some "SUB A,C"
  | .subAD => some "SUB A,D"
  | .subAE => some "SUB A,E"
  | .subAH => some "SUB A,H"
  | .subAL => some "SUB A,L"
  | .subAIndHl => some "SUB A,(HL)"
  | .subAA => some "SUB A,A"
  | .sbcAB => some "SBC A,B"
  | .sbcAC => some "SBC A,C"
  | .sbcAD => some "SBC A,D"
  | .sbcAE => some "SBC A,E"
  | .sbcAH => some "SBC A,H"
  | .sbcAL => some "SBC A,L"
  | .sbcAIndHl => some "SBC A,(HL)"
  | .sbcAA => some "SBC A,A"
  | .andAB => some "AND A,B"
  | .andAC => some "AND A,C"
  | .andAD => some "AND A,D"
  | .andAE => some "AND A,E"
  | .andAH => some "AND A,H"
  | .andAL => some "AND A,L"
  | .andAIndHl => some "AND A,(HL)"
  | .andAA => some "AND A,A"
  | .xorAB => some "XOR A,B"
  | .xorAC => some "XOR A,C"
  | .xorAD => some "XOR A,D"
  | .xorAE => some "XOR A,E"
  | .xorAH => some "XOR A,H"
  | .xorAL => some "XOR A,L"
  | .xorAIndHl => some "XOR A,(HL)"
  | .xorAA => some "XOR A,A"
  | .orAB => some "OR A,B"
  | .orAC => some "OR A,C"
  | .orAD => some "OR A,D"
  | .orAE => some "OR A,E"
  | .orAH => some "OR A,H"
  | .orAL => some "OR A,L"
  | .orAIndHl => some "OR A,(HL)"
  | .orAA => some "OR A,A"
  | .cpAB => some "CP A,B"
  | .cpAC => some "CP A,C"
  | .cpAD => some "CP A,D"
  | .cpAE => some "CP A,E"
  | .cpAH => some "CP A,H"
  | .cpAL => some "CP A,L"
  | .cpAIndHl => some "CP A,(HL)"
  | .cpAA => some "CP A,A"
  | .retNz => some "RET NZ"
  | .popBc => some "POP BC"
  | .jpNzA16 => some "JP NZ,a16"
  | .jpA16 => some "JP a16"
  | .callNzA16 => some "CALL NZ,a16"
  | .pushBc => some "PUSH BC"
  | .addAN8 => some "ADD A,n8"
  | .rst00 => some "RST $00"
  | .retZ => some "RET Z"
  | .ret => some "RET"
  | .jpZA16 => some "JP Z,a16"
  | .prefixCb => some "PREFIX CB"
  | .callZA16 => some "CALL Z,a16"
  | .callA16 => some "CALL a16"
  | .adcAN8 => some "ADC A,n8"
  | .rst08 => some "RST $08"
  | .retNc => some "RET NC"
  | .popDe => some "POP DE"
  | .jpNcA16 => some "JP NC,a16"
  | .callNcA16 => some "CALL NC,a16"
  | .pushDe => some "PUSH DE"
  | .subAN8 => some "SUB A,n8"
  | .rst10 => some "RST $10"
  | .retC => some "RET C"
  | .reti => some "RETI"
  | .jpCA16 => some "JP C,a16"
  | .callCA16 => some "CALL C,a16"
  | .sbcAN8 => some "SBC A,n8"
  | .rst18 => some "RST $18"
  | .ldhIndA8A => some "LDH (a8),A"
  | .popHl => some "POP HL"
  | .ldIndCA => some "LD (C),A"
  | .pushHl => some "PUSH HL"
  | .andAN8 => some "AND A,n8"
  | .rst20 => some "RST $20"
  | .addSpE8 => some "ADD SP,e8"
  | .jpHl => some "JP HL"
  | .ldIndA16A => some "LD (a16),A"
  | .xorAN8 => some "XOR A,n8"
  | .rst28 => some "RST $28"
  | .ldhAIndA8 => some "LDH A,(a8)"
  | .popAf => some "POP AF"
  | .ldAIndC => some "LD A,(C)"
  | .di => some "DI"
  | .pushAf => some "PUSH AF"
  | .orAN8 => some "OR A,n8"
  | .rst30 => some "RST $30"
  | .ldHlSpE8 => some "LD HL,SP+e8"
  | .ldSpHl => some "LD SP,HL"
  | .ldAIndA16 => some "LD A,(a16)"
  | .ei => some "EI"
  | .cpAN8 => some "CP A,n8"
  | .rst38 => some "RST $38"
  | .rlcR x => some ("RLC " ++ Loc8.spelling x)
  | .rrcR x => some ("RRC " ++ Loc8.spelling x)
  | .rlR x => some ("RL " ++ Loc8.spelling x)
  | .rrR x => some ("RR " ++ Loc8.spelling x)
  | .slaR x => some ("SLA " ++ Loc8.spelling x)
  | .sraR x => some ("SRA " ++ Loc8.spelling x)
  | .swapR x => some ("SWAP " ++ Loc8.spelling x)
  | .srlR x => some ("SRL " ++ Loc8.spelling x)
  | .bitBR n x => some ("BIT " ++ bitSpelling n ++ "," ++ Loc8.spelling x)
  | .resBR n x => some ("RES " ++ bitSpelling n ++ "," ++ Loc8.spelling x)
  | .setBR n x => some ("SET " ++ bitSpelling n ++ "," ++ Loc8.spelling x)

/-- The other spellings R111 lists for a reader of other toolchains' listings, each with the spelling of R110.
There are no pseudo-instructions. -/
def otherSpellings : List (String × String) :=
  [("LDI (HL),A", "LD (HL+),A"), ("LD (HLI),A", "LD (HL+),A"),
    ("LDD A,(HL)", "LD A,(HL-)"), ("LD A,(HLD)", "LD A,(HL-)"),
    ("LD ($FF00+n8),A", "LDH (a8),A"), ("LDH (n8),A", "LDH (a8),A"),
    ("LD ($FF00+C),A", "LD (C),A"), ("LDH (C),A", "LD (C),A"),
    ("JP (HL)", "JP HL"), ("LDHL SP,e8", "LD HL,SP+e8"), ("STOP 0", "STOP")]

/-- The operand of an accumulator operation (R110). -/
def AluSrc.spelling : AluSrc → String
  | .reg .b => "B"
  | .reg .c => "C"
  | .reg .d => "D"
  | .reg .e => "E"
  | .reg .h => "H"
  | .reg .l => "L"
  | .reg .a => "A"
  | .indHl => "(HL)"
  | .n8 => "n8"

/-- The mnemonic of an accumulator operation. -/
def AluOp.mnemonic : AluOp → String
  | .add => "ADD"
  | .adc => "ADC"
  | .sub => "SUB"
  | .sbc => "SBC"
  | .and => "AND"
  | .xor => "XOR"
  | .or => "OR"
  | .cp => "CP"

/-- The spelling of an accumulator operation without its explicit `A,`, as other listings write it (R111). -/
def shortAluSpelling (op : AluOp) (src : AluSrc) : String :=
  AluOp.mnemonic op ++ " " ++ AluSrc.spelling src

/-- The e8 of a JR at `pc` whose program text names `target`: `target - (pc + 2)` (R110). -/
def jrOperand (pc target : Word) : Byte := lowByte (target - (pc + 2))

/-- The targets a JR at `pc` can name: those whose distance from `pc + 2` is a signed byte (R110, R102). -/
def jrReaches (pc target : Word) : Bool :=
  decide (-128 ≤ (target - (pc + 2)).toInt) && decide ((target - (pc + 2)).toInt ≤ 127)

end Sys2Proof.Machine
end

