-- ==== Sys2Proof/Machine/HostInterface.lean ====
section
/-! DEFINITION. The host interface (60_exceptions.md R384): creation, snapshot load and compare, `step` with the
result it gives its caller, `execute`, and what a run is (R383). -/

namespace Sys2Proof.Machine

/-- The snapshot record (10_state.md R43). It holds no run status. -/
structure Snapshot where
  pc : Word
  sp : Word
  a : Byte
  b : Byte
  c : Byte
  d : Byte
  e : Byte
  f : Byte
  h : Byte
  l : Byte
  ime : Byte
  ie : Byte
  ei : Byte
  ram : List (Word × Byte)
  deriving DecidableEq, Repr

/-- The byte writes of a snapshot's `ram`, in list order (10_state.md R44). -/
def State.writeRam (s : State) : List (Word × Byte) → State
  | [] => s
  | (addr, v) :: ram => (s.write addr v).writeRam ram

/-- Loading a snapshot (10_state.md R44): registers, F without its low nibble, SP, PC, the three cells, then the
`ram` pairs, then the status Running. `HALT_MODE` is no part of a snapshot and stays (log entry 10). -/
def State.loadSnapshot (s : State) (snap : Snapshot) : State :=
  let loaded : State :=
    { s with
      a := snap.a
      b := snap.b
      c := snap.c
      d := snap.d
      e := snap.e
      h := snap.h
      l := snap.l
      f := byteToFlags snap.f
      sp := snap.sp
      pc := snap.pc
      ime := snap.ime
      ie := snap.ie
      ei := snap.ei }
  (loaded.writeRam snap.ram).setStatus .running

/-- Comparing with a snapshot (10_state.md R45): the three cells are not compared. -/
def State.matchesSnapshot (s : State) (snap : Snapshot) : Bool :=
  decide (s.a = snap.a) && decide (s.b = snap.b) && decide (s.c = snap.c) && decide (s.d = snap.d) &&
  decide (s.e = snap.e) && decide (s.h = snap.h) && decide (s.l = snap.l) &&
  decide (flagsToByte s.f = snap.f) && decide (s.sp = snap.sp) && decide (s.pc = snap.pc) &&
  snap.ram.all fun cell => decide (s.read cell.1 = cell.2)

/-- The CPU created with given parameters (70_reset_and_hazards.md R400). Its register values stand for
unspecified ones (log entry 3): a launch overwrites them all. -/
def State.create (cfg : Config) : State :=
  { State.reset with mem := Memory.ofInit cfg.initMem, haltMode := cfg.haltMode }

/-- A launch: creation, then the snapshot load that must come before the first step (R401). -/
def State.launch (cfg : Config) (snap : Snapshot) : State :=
  (State.create cfg).loadSnapshot snap

/-- What `step()` gives back to its caller (60_exceptions.md R384): nothing, or the DecodeError. -/
def stepReport (s : State) : Option DecodeError :=
  match step s with
  | .next t =>
    match t.status with
    | .faulted info => some info
    | .running => none
    | .halted => none
    | .stopped => none
  | .fault _ => none
  | .refused _ => none

/-- `execute(instruction)` (60_exceptions.md R384; 30_encoding.md R90): the instruction's effects with PC not
assigned, and the `next_pc` it returns (log entry 11). -/
def execute (i : Instr) (s : State) : Option (State × Word) :=
  match exec i s with
  | .next t => some (t.setPc s.pc, t.pc)
  | .fault _ => none
  | .refused _ => none

/-! ## Runs (60_exceptions.md R383) -/

/-- The state of a run from `s` after at most `n` steps: the run ends where its status is no longer Running. -/
def stateAfter : Nat → State → State
  | 0, s => s
  | n + 1, s =>
    match step s with
    | .next t => stateAfter n t
    | .fault _ => s
    | .refused _ => s

/-- The state is final: Halted or Stopped. -/
def State.isFinal (s : State) : Bool := decide (s.status = .halted) || decide (s.status = .stopped)

/-- The state has faulted. It is not final. -/
def State.hasFaulted (s : State) : Bool :=
  match s.status with
  | .faulted _ => true
  | .running => false
  | .halted => false
  | .stopped => false

end Sys2Proof.Machine
end

