-- ==== Sys2Proof/Safety.lean ====
section
/-! DEFINITION. The terms the claims use: what a safe state is, and, read off the spec's tables and
rules and not off the meanings, what each instruction may write, store, and read of the flags. -/

namespace Sys2Proof.Machine

/-! ## The invariant -/

/-- What holds of every state a run reaches: the memory is in its canonical form. -/
def Inv (s : State) : Prop := s.mem.wf = true

/-! ## Frames -/

/-- The elements of the state that are neither F, PC nor memory. -/
inductive Elem where
  | a | b | c | d | e | h | l | sp | ime | ie | ei | status | haltMode
  deriving DecidableEq, Repr

/-- `t` agrees with `s` on every element outside `ws`. -/
def AgreeOutside (ws : List Elem) (s t : State) : Prop :=
  (.a ∉ ws → t.a = s.a) ∧ (.b ∉ ws → t.b = s.b) ∧ (.c ∉ ws → t.c = s.c) ∧ (.d ∉ ws → t.d = s.d) ∧
  (.e ∉ ws → t.e = s.e) ∧ (.h ∉ ws → t.h = s.h) ∧ (.l ∉ ws → t.l = s.l) ∧ (.sp ∉ ws → t.sp = s.sp) ∧
  (.ime ∉ ws → t.ime = s.ime) ∧ (.ie ∉ ws → t.ie = s.ie) ∧ (.ei ∉ ws → t.ei = s.ei) ∧
  (.status ∉ ws → t.status = s.status) ∧ (.haltMode ∉ ws → t.haltMode = s.haltMode)

/-- What a location operand writes besides memory. -/
def Loc8.elems : Loc8 → List Elem
  | .b => [.b]
  | .c => [.c]
  | .d => [.d]
  | .e => [.e]
  | .h => [.h]
  | .l => [.l]
  | .indHl => []
  | .a => [.a]

/-- What a CB table entry writes besides F and memory (42_rotate_shift.md R194; 43_bit.md). -/
def CbOp.elems : CbOp → List Elem
  | .rot _ x => Loc8.elems x
  | .bit _ _ => []
  | .res _ x => Loc8.elems x
  | .set _ x => Loc8.elems x

/-- What each instruction writes besides F, PC and memory, by its rule (10_state.md R35): its destination, HL for the
stepping modes, SP for the stack, `ime` and `ei` for DI, EI and RETI, the status for HALT, STOP and a DecodeError. -/
def writtenBy (i : Instr) (s : State) : List Elem :=
  match i with
  | .rlcR x => Loc8.elems x
  | .rrcR x => Loc8.elems x
  | .rlR x => Loc8.elems x
  | .rrR x => Loc8.elems x
  | .slaR x => Loc8.elems x
  | .sraR x => Loc8.elems x
  | .swapR x => Loc8.elems x
  | .srlR x => Loc8.elems x
  | .bitBR _ _ => []
  | .resBR _ x => Loc8.elems x
  | .setBR _ x => Loc8.elems x
  | .prefixCb => CbOp.elems (decodeCb s.imm8)
  | .nop | .ldIndBcA | .ldIndA16Sp | .ldIndDeA | .jrE8 | .jrNzE8 | .jrZE8 | .jrNcE8 | .incIndHl
  | .decIndHl | .ldIndHlN8 | .scf | .jrCE8 | .ccf | .ldIndHlB | .ldIndHlC | .ldIndHlD | .ldIndHlE
  | .ldIndHlH | .ldIndHlL | .ldIndHlA | .cpAB | .cpAC | .cpAD | .cpAE | .cpAH | .cpAL | .cpAIndHl
  | .cpAA | .jpNzA16 | .jpA16 | .jpZA16 | .jpNcA16 | .jpCA16 | .ldhIndA8A | .ldIndCA | .jpHl
  | .ldIndA16A | .cpAN8 => []
  | .ldBcN16 | .incBc | .decBc => [.b, .c]
  | .incB | .decB | .ldBN8 | .ldBB | .ldBC | .ldBD | .ldBE | .ldBH | .ldBL | .ldBIndHl | .ldBA => [.b]
  | .rlca | .ldAIndBc | .rrca | .rla | .ldAIndDe | .rra | .daa | .cpl | .incA | .decA | .ldAN8
  | .ldAB | .ldAC | .ldAD | .ldAE | .ldAH | .ldAL | .ldAIndHl | .ldAA | .addAB | .addAC | .addAD
  | .addAE | .addAH | .addAL | .addAIndHl | .addAA | .adcAB | .adcAC | .adcAD | .adcAE | .adcAH
  | .adcAL | .adcAIndHl | .adcAA | .subAB | .subAC | .subAD | .subAE | .subAH | .subAL | .subAIndHl
  | .subAA | .sbcAB | .sbcAC | .sbcAD | .sbcAE | .sbcAH | .sbcAL | .sbcAIndHl | .sbcAA | .andAB
  | .andAC | .andAD | .andAE | .andAH | .andAL | .andAIndHl | .andAA | .xorAB | .xorAC | .xorAD
  | .xorAE | .xorAH | .xorAL | .xorAIndHl | .xorAA | .orAB | .orAC | .orAD | .orAE | .orAH | .orAL
  | .orAIndHl | .orAA | .addAN8 | .adcAN8 | .subAN8 | .sbcAN8 | .andAN8 | .xorAN8 | .ldhAIndA8
  | .ldAIndC | .orAN8 | .ldAIndA16 => [.a]
  | .addHlBc | .addHlDe | .ldHlN16 | .ldIndHliA | .incHl | .addHlHl | .decHl | .ldIndHldA
  | .addHlSp | .ldHlSpE8 => [.h, .l]
  | .incC | .decC | .ldCN8 | .ldCB | .ldCC | .ldCD | .ldCE | .ldCH | .ldCL | .ldCIndHl | .ldCA => [.c]
  | .stop | .halt | .noTableEntry _ => [.status]
  | .ldDeN16 | .incDe | .decDe => [.d, .e]
  | .incD | .decD | .ldDN8 | .ldDB | .ldDC | .ldDD | .ldDE | .ldDH | .ldDL | .ldDIndHl | .ldDA => [.d]
  | .incE | .decE | .ldEN8 | .ldEB | .ldEC | .ldED | .ldEE | .ldEH | .ldEL | .ldEIndHl | .ldEA => [.e]
  | .incH | .decH | .ldHN8 | .ldHB | .ldHC | .ldHD | .ldHE | .ldHH | .ldHL | .ldHIndHl | .ldHA => [.h]
  | .ldAIndHli | .ldAIndHld => [.a, .h, .l]
  | .incL | .decL | .ldLN8 | .ldLB | .ldLC | .ldLD | .ldLE | .ldLH | .ldLL | .ldLIndHl | .ldLA => [.l]
  | .ldSpN16 | .incSp | .decSp | .retNz | .callNzA16 | .pushBc | .rst00 | .retZ | .ret | .callZA16
  | .callA16 | .rst08 | .retNc | .callNcA16 | .pushDe | .rst10 | .retC | .callCA16 | .rst18
  | .pushHl | .rst20 | .addSpE8 | .rst28 | .pushAf | .rst30 | .ldSpHl | .rst38 => [.sp]
  | .popBc => [.sp, .b, .c]
  | .popDe => [.sp, .d, .e]
  | .reti => [.sp, .ime]
  | .popHl => [.sp, .h, .l]
  | .popAf => [.sp, .a]
  | .di => [.ime, .ei]
  | .ei => [.ei]

/-! ## Flags (10_state.md R42) -/

/-- What an instruction does to a flag: `0`, `1`, `*` or `-` in the table R42. -/
inductive FlagEffect where
  | cleared | isSet | computed | kept
  deriving DecidableEq, Repr

/-- A row of the table R42. -/
structure FlagRow where
  z : FlagEffect
  n : FlagEffect
  h : FlagEffect
  c : FlagEffect
  deriving DecidableEq, Repr

/-- What the effect says of the flag before and after. -/
def FlagEffect.obeyed (x : FlagEffect) (before after : Bool) : Prop :=
  match x with
  | .cleared => after = false
  | .isSet => after = true
  | .computed => True
  | .kept => after = before

/-- The row of a CB table entry. -/
def CbOp.flagRow : CbOp → FlagRow
  | .rot .swap _ => ⟨.computed, .cleared, .cleared, .cleared⟩
  | .rot _ _ => ⟨.computed, .cleared, .cleared, .computed⟩
  | .bit _ _ => ⟨.computed, .cleared, .isSet, .kept⟩
  | .res _ _ => ⟨.kept, .kept, .kept, .kept⟩
  | .set _ _ => ⟨.kept, .kept, .kept, .kept⟩

/-- The table R42. -/
def flagRowOf (i : Instr) (s : State) : FlagRow :=
  match i with
  | .prefixCb => CbOp.flagRow (decodeCb s.imm8)
  | .nop | .ldBcN16 | .ldIndBcA | .incBc | .ldBN8 | .ldIndA16Sp | .ldAIndBc | .decBc | .ldCN8
  | .stop | .ldDeN16 | .ldIndDeA | .incDe | .ldDN8 | .jrE8 | .ldAIndDe | .decDe | .ldEN8 | .jrNzE8
  | .ldHlN16 | .ldIndHliA | .incHl | .ldHN8 | .jrZE8 | .ldAIndHli | .decHl | .ldLN8 | .jrNcE8
  | .ldSpN16 | .ldIndHldA | .incSp | .ldIndHlN8 | .jrCE8 | .ldAIndHld | .decSp | .ldAN8 | .ldBB
  | .ldBC | .ldBD | .ldBE | .ldBH | .ldBL | .ldBIndHl | .ldBA | .ldCB | .ldCC | .ldCD | .ldCE
  | .ldCH | .ldCL | .ldCIndHl | .ldCA | .ldDB | .ldDC | .ldDD | .ldDE | .ldDH | .ldDL | .ldDIndHl
  | .ldDA | .ldEB | .ldEC | .ldED | .ldEE | .ldEH | .ldEL | .ldEIndHl | .ldEA | .ldHB | .ldHC
  | .ldHD | .ldHE | .ldHH | .ldHL | .ldHIndHl | .ldHA | .ldLB | .ldLC | .ldLD | .ldLE | .ldLH
  | .ldLL | .ldLIndHl | .ldLA | .ldIndHlB | .ldIndHlC | .ldIndHlD | .ldIndHlE | .ldIndHlH
  | .ldIndHlL | .halt | .ldIndHlA | .ldAB | .ldAC | .ldAD | .ldAE | .ldAH | .ldAL | .ldAIndHl
  | .ldAA | .retNz | .popBc | .jpNzA16 | .jpA16 | .callNzA16 | .pushBc | .rst00 | .retZ | .ret
  | .jpZA16 | .callZA16 | .callA16 | .rst08 | .retNc | .popDe | .jpNcA16 | .noTableEntry _
  | .callNcA16 | .pushDe | .rst10 | .retC | .reti | .jpCA16 | .callCA16 | .rst18 | .ldhIndA8A
  | .popHl | .ldIndCA | .pushHl | .rst20 | .jpHl | .ldIndA16A | .rst28 | .ldhAIndA8 | .ldAIndC
  | .di | .pushAf | .rst30 | .ldSpHl | .ldAIndA16 | .ei | .rst38 | .resBR _ _ | .setBR _ _ => ⟨.kept, .kept, .kept, .kept⟩
  | .incB | .incC | .incD | .incE | .incH | .incL | .incIndHl | .incA => ⟨.computed, .cleared, .computed, .kept⟩
  | .decB | .decC | .decD | .decE | .decH | .decL | .decIndHl | .decA => ⟨.computed, .isSet, .computed, .kept⟩
  | .rlca | .rrca | .rla | .rra => ⟨.cleared, .cleared, .cleared, .computed⟩
  | .addHlBc | .addHlDe | .addHlHl | .addHlSp => ⟨.kept, .cleared, .computed, .computed⟩
  | .daa => ⟨.computed, .kept, .cleared, .computed⟩
  | .cpl => ⟨.kept, .isSet, .isSet, .kept⟩
  | .scf => ⟨.kept, .cleared, .cleared, .isSet⟩
  | .ccf => ⟨.kept, .cleared, .cleared, .computed⟩
  | .addAB | .addAC | .addAD | .addAE | .addAH | .addAL | .addAIndHl | .addAA | .adcAB | .adcAC
  | .adcAD | .adcAE | .adcAH | .adcAL | .adcAIndHl | .adcAA | .addAN8 | .adcAN8 => ⟨.computed, .cleared, .computed, .computed⟩
  | .subAB | .subAC | .subAD | .subAE | .subAH | .subAL | .subAIndHl | .subAA | .sbcAB | .sbcAC
  | .sbcAD | .sbcAE | .sbcAH | .sbcAL | .sbcAIndHl | .sbcAA | .cpAB | .cpAC | .cpAD | .cpAE | .cpAH
  | .cpAL | .cpAIndHl | .cpAA | .subAN8 | .sbcAN8 | .cpAN8 => ⟨.computed, .isSet, .computed, .computed⟩
  | .andAB | .andAC | .andAD | .andAE | .andAH | .andAL | .andAIndHl | .andAA | .andAN8 => ⟨.computed, .cleared, .isSet, .cleared⟩
  | .xorAB | .xorAC | .xorAD | .xorAE | .xorAH | .xorAL | .xorAIndHl | .xorAA | .orAB | .orAC
  | .orAD | .orAE | .orAH | .orAL | .orAIndHl | .orAA | .xorAN8 | .orAN8 | .swapR _ => ⟨.computed, .cleared, .cleared, .cleared⟩
  | .addSpE8 | .ldHlSpE8 => ⟨.cleared, .cleared, .computed, .computed⟩
  | .popAf => ⟨.computed, .computed, .computed, .computed⟩
  | .rlcR _ | .rrcR _ | .rlR _ | .rrR _ | .slaR _ | .sraR _ | .srlR _ => ⟨.computed, .cleared, .cleared, .computed⟩
  | .bitBR _ _ => ⟨.computed, .cleared, .isSet, .kept⟩

/-- The flags an instruction may read. -/
structure FlagsRead where
  z : Bool
  n : Bool
  h : Bool
  c : Bool
  deriving DecidableEq, Repr

/-- The flags a CB table entry reads: RL and RR read C. -/
def CbOp.flagsRead : CbOp → FlagsRead
  | .rot .rl _ => ⟨false, false, false, true⟩
  | .rot .rr _ => ⟨false, false, false, true⟩
  | .rot _ _ => ⟨false, false, false, false⟩
  | .bit _ _ => ⟨false, false, false, false⟩
  | .res _ _ => ⟨false, false, false, false⟩
  | .set _ _ => ⟨false, false, false, false⟩

/-- The readers under the table R42: conditions read Z or C; ADC, SBC, RLA, RRA, RL, RR and CCF read C; DAA reads
N, H and C; PUSH AF reads all four. -/
def flagsReadBy (i : Instr) (s : State) : FlagsRead :=
  match i with
  | .prefixCb => CbOp.flagsRead (decodeCb s.imm8)
  | .nop | .ldBcN16 | .ldIndBcA | .incBc | .incB | .decB | .ldBN8 | .rlca | .ldIndA16Sp | .addHlBc
  | .ldAIndBc | .decBc | .incC | .decC | .ldCN8 | .rrca | .stop | .ldDeN16 | .ldIndDeA | .incDe
  | .incD | .decD | .ldDN8 | .jrE8 | .addHlDe | .ldAIndDe | .decDe | .incE | .decE | .ldEN8
  | .ldHlN16 | .ldIndHliA | .incHl | .incH | .decH | .ldHN8 | .addHlHl | .ldAIndHli | .decHl
  | .incL | .decL | .ldLN8 | .cpl | .ldSpN16 | .ldIndHldA | .incSp | .incIndHl | .decIndHl
  | .ldIndHlN8 | .scf | .addHlSp | .ldAIndHld | .decSp | .incA | .decA | .ldAN8 | .ldBB | .ldBC
  | .ldBD | .ldBE | .ldBH | .ldBL | .ldBIndHl | .ldBA | .ldCB | .ldCC | .ldCD | .ldCE | .ldCH
  | .ldCL | .ldCIndHl | .ldCA | .ldDB | .ldDC | .ldDD | .ldDE | .ldDH | .ldDL | .ldDIndHl | .ldDA
  | .ldEB | .ldEC | .ldED | .ldEE | .ldEH | .ldEL | .ldEIndHl | .ldEA | .ldHB | .ldHC | .ldHD
  | .ldHE | .ldHH | .ldHL | .ldHIndHl | .ldHA | .ldLB | .ldLC | .ldLD | .ldLE | .ldLH | .ldLL
  | .ldLIndHl | .ldLA | .ldIndHlB | .ldIndHlC | .ldIndHlD | .ldIndHlE | .ldIndHlH | .ldIndHlL
  | .halt | .ldIndHlA | .ldAB | .ldAC | .ldAD | .ldAE | .ldAH | .ldAL | .ldAIndHl | .ldAA | .addAB
  | .addAC | .addAD | .addAE | .addAH | .addAL | .addAIndHl | .addAA | .subAB | .subAC | .subAD
  | .subAE | .subAH | .subAL | .subAIndHl | .subAA | .andAB | .andAC | .andAD | .andAE | .andAH
  | .andAL | .andAIndHl | .andAA | .xorAB | .xorAC | .xorAD | .xorAE | .xorAH | .xorAL | .xorAIndHl
  | .xorAA | .orAB | .orAC | .orAD | .orAE | .orAH | .orAL | .orAIndHl | .orAA | .cpAB | .cpAC
  | .cpAD | .cpAE | .cpAH | .cpAL | .cpAIndHl | .cpAA | .popBc | .jpA16 | .pushBc | .addAN8
  | .rst00 | .ret | .callA16 | .rst08 | .popDe | .noTableEntry _ | .pushDe | .subAN8 | .rst10
  | .reti | .rst18 | .ldhIndA8A | .popHl | .ldIndCA | .pushHl | .andAN8 | .rst20 | .addSpE8 | .jpHl
  | .ldIndA16A | .xorAN8 | .rst28 | .ldhAIndA8 | .popAf | .ldAIndC | .di | .orAN8 | .rst30
  | .ldHlSpE8 | .ldSpHl | .ldAIndA16 | .ei | .cpAN8 | .rst38 | .rlcR _ | .rrcR _ | .slaR _
  | .sraR _ | .swapR _ | .srlR _ | .bitBR _ _ | .resBR _ _ | .setBR _ _ => ⟨false, false, false, false⟩
  | .rla | .rra | .jrNcE8 | .jrCE8 | .ccf | .adcAB | .adcAC | .adcAD | .adcAE | .adcAH | .adcAL
  | .adcAIndHl | .adcAA | .sbcAB | .sbcAC | .sbcAD | .sbcAE | .sbcAH | .sbcAL | .sbcAIndHl | .sbcAA
  | .adcAN8 | .retNc | .jpNcA16 | .callNcA16 | .retC | .jpCA16 | .callCA16 | .sbcAN8 | .rlR _
  | .rrR _ => ⟨false, false, false, true⟩
  | .jrNzE8 | .jrZE8 | .retNz | .jpNzA16 | .callNzA16 | .retZ | .jpZA16 | .callZA16 => ⟨true, false, false, false⟩
  | .daa => ⟨false, true, true, true⟩
  | .pushAf => ⟨true, true, true, true⟩

/-! ## Stores -/

/-- The bytes a push of `v` stores, in order (44_control.md R252). -/
def State.pushedAt (s : State) (v : Word) : List (Word × Byte) :=
  [(s.sp - 1, highByte v), (s.sp - 2, lowByte v)]

/-- The byte a location operand stores. -/
def State.storedAtLoc (s : State) (x : Loc8) (v : Byte) : List (Word × Byte) :=
  match x with
  | .indHl => [(s.hl, v)]
  | .b => []
  | .c => []
  | .d => []
  | .e => []
  | .h => []
  | .l => []
  | .a => []

/-- The byte a CB table entry stores. -/
def State.storedByCb (s : State) : CbOp → List (Word × Byte)
  | .rot op x => s.storedAtLoc x (rotResult op (s.readLoc x) s.f.c).1
  | .bit _ _ => []
  | .res n x => s.storedAtLoc x (resetBit n (s.readLoc x))
  | .set n x => s.storedAtLoc x (setBit n (s.readLoc x))

/-- The bytes each instruction stores, with the address and the value of each, in order, by its rule and with the
address functions the meanings use. -/
def storedBy (i : Instr) (s : State) : List (Word × Byte) :=
  match i with
  | .prefixCb => s.storedByCb (decodeCb s.imm8)
  | .rlcR x => s.storedByCb (.rot .rlc x)
  | .rrcR x => s.storedByCb (.rot .rrc x)
  | .rlR x => s.storedByCb (.rot .rl x)
  | .rrR x => s.storedByCb (.rot .rr x)
  | .slaR x => s.storedByCb (.rot .sla x)
  | .sraR x => s.storedByCb (.rot .sra x)
  | .swapR x => s.storedByCb (.rot .swap x)
  | .srlR x => s.storedByCb (.rot .srl x)
  | .bitBR _ _ => []
  | .resBR n x => s.storedByCb (.res n x)
  | .setBR n x => s.storedByCb (.set n x)
  | .ldIndBcA => [(s.memModeAddr .bc, s.a)]
  | .ldIndA16Sp => [(s.imm16, lowByte s.sp), (s.imm16 + 1, highByte s.sp)]
  | .ldIndDeA => [(s.memModeAddr .de, s.a)]
  | .ldIndHliA => [(s.memModeAddr .hli, s.a)]
  | .ldIndHldA => [(s.memModeAddr .hld, s.a)]
  | .incIndHl => [(s.hl, (incByte (s.read s.hl) s.f).1)]
  | .decIndHl => [(s.hl, (decByte (s.read s.hl) s.f).1)]
  | .ldIndHlN8 => [(s.hl, s.imm8)]
  | .ldIndHlB => [(s.hl, s.reg .b)]
  | .ldIndHlC => [(s.hl, s.reg .c)]
  | .ldIndHlD => [(s.hl, s.reg .d)]
  | .ldIndHlE => [(s.hl, s.reg .e)]
  | .ldIndHlH => [(s.hl, s.reg .h)]
  | .ldIndHlL => [(s.hl, s.reg .l)]
  | .ldIndHlA => [(s.hl, s.reg .a)]
  | .callNzA16 => if condHolds .nz s.f then s.pushedAt (s.pc + 3) else []
  | .pushBc => s.pushedAt (s.stkPair .bc)
  | .rst00 => s.pushedAt (s.pc + 1)
  | .callZA16 => if condHolds .z s.f then s.pushedAt (s.pc + 3) else []
  | .callA16 => s.pushedAt (s.pc + 3)
  | .rst08 => s.pushedAt (s.pc + 1)
  | .callNcA16 => if condHolds .nc s.f then s.pushedAt (s.pc + 3) else []
  | .pushDe => s.pushedAt (s.stkPair .de)
  | .rst10 => s.pushedAt (s.pc + 1)
  | .callCA16 => if condHolds .c s.f then s.pushedAt (s.pc + 3) else []
  | .rst18 => s.pushedAt (s.pc + 1)
  | .ldhIndA8A => [(s.immHighPage, s.a)]
  | .ldIndCA => [(s.cHighPage, s.a)]
  | .pushHl => s.pushedAt (s.stkPair .hl)
  | .rst20 => s.pushedAt (s.pc + 1)
  | .ldIndA16A => [(s.imm16, s.a)]
  | .rst28 => s.pushedAt (s.pc + 1)
  | .pushAf => s.pushedAt (s.stkPair .af)
  | .rst30 => s.pushedAt (s.pc + 1)
  | .rst38 => s.pushedAt (s.pc + 1)
  | .nop | .ldBcN16 | .incBc | .incB | .decB | .ldBN8 | .rlca | .addHlBc | .ldAIndBc | .decBc
  | .incC | .decC | .ldCN8 | .rrca | .stop | .ldDeN16 | .incDe | .incD | .decD | .ldDN8 | .rla
  | .jrE8 | .addHlDe | .ldAIndDe | .decDe | .incE | .decE | .ldEN8 | .rra | .jrNzE8 | .ldHlN16
  | .incHl | .incH | .decH | .ldHN8 | .daa | .jrZE8 | .addHlHl | .ldAIndHli | .decHl | .incL
  | .decL | .ldLN8 | .cpl | .jrNcE8 | .ldSpN16 | .incSp | .scf | .jrCE8 | .addHlSp | .ldAIndHld
  | .decSp | .incA | .decA | .ldAN8 | .ccf | .ldBB | .ldBC | .ldBD | .ldBE | .ldBH | .ldBL
  | .ldBIndHl | .ldBA | .ldCB | .ldCC | .ldCD | .ldCE | .ldCH | .ldCL | .ldCIndHl | .ldCA | .ldDB
  | .ldDC | .ldDD | .ldDE | .ldDH | .ldDL | .ldDIndHl | .ldDA | .ldEB | .ldEC | .ldED | .ldEE
  | .ldEH | .ldEL | .ldEIndHl | .ldEA | .ldHB | .ldHC | .ldHD | .ldHE | .ldHH | .ldHL | .ldHIndHl
  | .ldHA | .ldLB | .ldLC | .ldLD | .ldLE | .ldLH | .ldLL | .ldLIndHl | .ldLA | .halt | .ldAB
  | .ldAC | .ldAD | .ldAE | .ldAH | .ldAL | .ldAIndHl | .ldAA | .addAB | .addAC | .addAD | .addAE
  | .addAH | .addAL | .addAIndHl | .addAA | .adcAB | .adcAC | .adcAD | .adcAE | .adcAH | .adcAL
  | .adcAIndHl | .adcAA | .subAB | .subAC | .subAD | .subAE | .subAH | .subAL | .subAIndHl | .subAA
  | .sbcAB | .sbcAC | .sbcAD | .sbcAE | .sbcAH | .sbcAL | .sbcAIndHl | .sbcAA | .andAB | .andAC
  | .andAD | .andAE | .andAH | .andAL | .andAIndHl | .andAA | .xorAB | .xorAC | .xorAD | .xorAE
  | .xorAH | .xorAL | .xorAIndHl | .xorAA | .orAB | .orAC | .orAD | .orAE | .orAH | .orAL
  | .orAIndHl | .orAA | .cpAB | .cpAC | .cpAD | .cpAE | .cpAH | .cpAL | .cpAIndHl | .cpAA | .retNz
  | .popBc | .jpNzA16 | .jpA16 | .addAN8 | .retZ | .ret | .jpZA16 | .adcAN8 | .retNc | .popDe
  | .jpNcA16 | .noTableEntry _ | .subAN8 | .retC | .reti | .jpCA16 | .sbcAN8 | .popHl | .andAN8
  | .addSpE8 | .jpHl | .xorAN8 | .ldhAIndA8 | .popAf | .ldAIndC | .di | .orAN8 | .ldHlSpE8
  | .ldSpHl | .ldAIndA16 | .ei | .cpAN8 => []

/-- What an address holds after the stores, in order, if it held `old` before. -/
def afterStores (addr : Word) (old : Byte) : List (Word × Byte) → Byte
  | [] => old
  | (k, v) :: rest => afterStores addr (if addr = k then v else old) rest

/-! ## Control -/

/-- The instructions that transfer control (44_control.md R241 to R251). -/
def transfersControl : Instr → Bool
  | .jrE8 | .jrNzE8 | .jrZE8 | .jrNcE8 | .jrCE8 | .retNz | .jpNzA16 | .jpA16 | .callNzA16 | .rst00
  | .retZ | .ret | .jpZA16 | .callZA16 | .callA16 | .rst08 | .retNc | .jpNcA16 | .callNcA16
  | .rst10 | .retC | .reti | .jpCA16 | .callCA16 | .rst18 | .rst20 | .jpHl | .rst28 | .rst30
  | .rst38 => true
  | .nop | .ldBcN16 | .ldIndBcA | .incBc | .incB | .decB | .ldBN8 | .rlca | .ldIndA16Sp | .addHlBc
  | .ldAIndBc | .decBc | .incC | .decC | .ldCN8 | .rrca | .stop | .ldDeN16 | .ldIndDeA | .incDe
  | .incD | .decD | .ldDN8 | .rla | .addHlDe | .ldAIndDe | .decDe | .incE | .decE | .ldEN8 | .rra
  | .ldHlN16 | .ldIndHliA | .incHl | .incH | .decH | .ldHN8 | .daa | .addHlHl | .ldAIndHli | .decHl
  | .incL | .decL | .ldLN8 | .cpl | .ldSpN16 | .ldIndHldA | .incSp | .incIndHl | .decIndHl
  | .ldIndHlN8 | .scf | .addHlSp | .ldAIndHld | .decSp | .incA | .decA | .ldAN8 | .ccf | .ldBB
  | .ldBC | .ldBD | .ldBE | .ldBH | .ldBL | .ldBIndHl | .ldBA | .ldCB | .ldCC | .ldCD | .ldCE
  | .ldCH | .ldCL | .ldCIndHl | .ldCA | .ldDB | .ldDC | .ldDD | .ldDE | .ldDH | .ldDL | .ldDIndHl
  | .ldDA | .ldEB | .ldEC | .ldED | .ldEE | .ldEH | .ldEL | .ldEIndHl | .ldEA | .ldHB | .ldHC
  | .ldHD | .ldHE | .ldHH | .ldHL | .ldHIndHl | .ldHA | .ldLB | .ldLC | .ldLD | .ldLE | .ldLH
  | .ldLL | .ldLIndHl | .ldLA | .ldIndHlB | .ldIndHlC | .ldIndHlD | .ldIndHlE | .ldIndHlH
  | .ldIndHlL | .halt | .ldIndHlA | .ldAB | .ldAC | .ldAD | .ldAE | .ldAH | .ldAL | .ldAIndHl
  | .ldAA | .addAB | .addAC | .addAD | .addAE | .addAH | .addAL | .addAIndHl | .addAA | .adcAB
  | .adcAC | .adcAD | .adcAE | .adcAH | .adcAL | .adcAIndHl | .adcAA | .subAB | .subAC | .subAD
  | .subAE | .subAH | .subAL | .subAIndHl | .subAA | .sbcAB | .sbcAC | .sbcAD | .sbcAE | .sbcAH
  | .sbcAL | .sbcAIndHl | .sbcAA | .andAB | .andAC | .andAD | .andAE | .andAH | .andAL | .andAIndHl
  | .andAA | .xorAB | .xorAC | .xorAD | .xorAE | .xorAH | .xorAL | .xorAIndHl | .xorAA | .orAB
  | .orAC | .orAD | .orAE | .orAH | .orAL | .orAIndHl | .orAA | .cpAB | .cpAC | .cpAD | .cpAE
  | .cpAH | .cpAL | .cpAIndHl | .cpAA | .popBc | .pushBc | .addAN8 | .adcAN8 | .popDe | .pushDe
  | .subAN8 | .sbcAN8 | .ldhIndA8A | .popHl | .ldIndCA | .pushHl | .andAN8 | .addSpE8 | .ldIndA16A
  | .xorAN8 | .ldhAIndA8 | .popAf | .ldAIndC | .di | .pushAf | .orAN8 | .ldHlSpE8 | .ldSpHl
  | .ldAIndA16 | .ei | .cpAN8 | .rlcR _ | .rrcR _ | .rlR _ | .rrR _ | .slaR _ | .sraR _ | .swapR _
  | .srlR _ | .bitBR _ _ | .resBR _ _ | .setBR _ _ | .prefixCb => false
  | .noTableEntry _ => false

/-! ## Operands and results as numbers -/

/-- The value of an accumulator operation's second operand (40_alu8.md R130). -/
def operandValue (src : AluSrc) (s : State) : Byte :=
  match src with
  | .reg r => s.reg r
  | .indHl => s.read (concatBytes s.h s.l)
  | .n8 => s.read (s.pc + 1)

/-- The length of an accumulator operation (40_alu8.md R130). -/
def operandLength : AluSrc → Nat
  | .reg _ => 1
  | .indHl => 1
  | .n8 => 2

/-- The opcode of an accumulator operation whose register forms start at `base` and whose n8 form is `imm`. -/
def operandOpcode (base imm : Nat) : AluSrc → Byte
  | .reg .b => BitVec.ofNat 8 base
  | .reg .c => BitVec.ofNat 8 (base + 1)
  | .reg .d => BitVec.ofNat 8 (base + 2)
  | .reg .e => BitVec.ofNat 8 (base + 3)
  | .reg .h => BitVec.ofNat 8 (base + 4)
  | .reg .l => BitVec.ofNat 8 (base + 5)
  | .indHl => BitVec.ofNat 8 (base + 6)
  | .reg .a => BitVec.ofNat 8 (base + 7)
  | .n8 => BitVec.ofNat 8 imm

/-- The little-endian word after the opcode (00_scope.md R12, R13). -/
def operandWord (s : State) : Word := concatBytes (s.read (s.pc + 2)) (s.read (s.pc + 1))

/-- The state after a push of `v`: the high byte at SP-1, the low byte at SP-2, SP 2 less (44_control.md R252). -/
def afterPush (s : State) (v : Word) : State :=
  { (s.write (s.sp - 1) (highByte v)).write (s.sp - 2) (lowByte v) with sp := s.sp - 2 }

/-- The number of an r8 register (30_encoding.md R94). -/
def reg8Number : Reg8 → Nat
  | .b => 0
  | .c => 1
  | .d => 2
  | .e => 3
  | .h => 4
  | .l => 5
  | .a => 7

/-- Result and carry out of a rotate, shift or SWAP of the number `v` with carry in `cin`
(42_rotate_shift.md R195 to R202), both as numbers. -/
def rotNumbers (op : RotOp) (v cin : Nat) : Nat × Nat :=
  match op with
  | .rlc => (v * 2 % 256 + v / 128, v / 128)
  | .rrc => (v / 2 + v % 2 * 128, v % 2)
  | .rl => (v * 2 % 256 + cin, v / 128)
  | .rr => (v / 2 + cin * 128, v % 2)
  | .sla => (v * 2 % 256, v / 128)
  | .sra => (v / 2 + v / 128 * 128, v % 2)
  | .swap => (v % 16 * 16 + v / 16, 0)
  | .srl => (v / 2, v % 2)

/-- The two-digit BCD byte of a number below 100. -/
def bcd (n : Nat) : Byte := BitVec.ofNat 8 (n / 10 * 16 + n % 10)

/-- `s` and `t` agree on everything but the three snapshot cells (10_state.md R39). -/
def AgreeButCells (s t : State) : Prop :=
  t = { s with ime := t.ime, ie := t.ie, ei := t.ei }

/-- Two outcomes of a step that agree on everything but the three snapshot cells. -/
def OutcomesAgreeButCells : Result → Result → Prop
  | .next s, .next t => AgreeButCells s t
  | .fault x, .fault y => x = y
  | .refused x, .refused y => x = y
  | .next _, .fault _ => False
  | .next _, .refused _ => False
  | .fault _, .next _ => False
  | .fault _, .refused _ => False
  | .refused _, .next _ => False
  | .refused _, .fault _ => False

end Sys2Proof.Machine
end

