-- ==== Sys2Proof/Certificates/Slice0/Obligations.lean ====
section
/-! DEFINITION. The statements for the provers, in the order of OBLIGATIONS.json. -/

open Sys2Proof Sys2Proof.Machine

/-- O1. The byte view of F and its laws. Rule R33. flags_to_byte puts Z, N, H, C in bits 7 to 4 and nothing in
bits 3 to 0; byte_to_flags reads bits 7 to 4 and ignores the rest; byte_to_flags of flags_to_byte is the
identity and flags_to_byte has a zero low nibble. Reading F (low byte of AF, snapshot compare) yields
flags_to_byte; writing F (POP AF, snapshot load) stores byte_to_flags; so a byte written and read back loses its
low nibble; clear_all_flags clears all four. -/
def Obligations.FlagsByteViewRoundTrips : Prop :=
  (∀ f : Flags, flagsToByte f = BitVec.ofNat 8
      (bitNat f.z * 128 + bitNat f.n * 64 + bitNat f.h * 32 + bitNat f.c * 16)) ∧
  (∀ x : Byte, byteToFlags x =
      { z := x.getLsbD 7, n := x.getLsbD 6, h := x.getLsbD 5, c := x.getLsbD 4 }) ∧
  (∀ f : Flags, byteToFlags (flagsToByte f) = f) ∧
  (∀ f : Flags, flagsToByte f &&& 0x0F = 0) ∧
  (∀ x : Byte, flagsToByte (byteToFlags x) = x &&& 0xF0) ∧
  (∀ s : State, lowByte (s.stkPair .af) = flagsToByte s.f) ∧
  (∀ (s : State) (v : Word), (s.setStkPair .af v).f = byteToFlags (lowByte v)) ∧
  (∀ (s : State) (snap : Snapshot), (s.loadSnapshot snap).f = byteToFlags snap.f) ∧
  (∀ (s : State) (snap : Snapshot), s.matchesSnapshot snap = true → snap.f = flagsToByte s.f) ∧
  (∀ f : Flags, f.clearAll = { z := false, n := false, h := false, c := false })

/-- O2. AF, BC, DE and HL are views of the 8-bit cells. Rule R34. Reading a pair composes its two cells, the
first-named one high (for AF the low byte is flags_to_byte of F); writing a pair is exactly the two cell writes
of the high and the low byte (for AF, A and byte_to_flags), everything else kept. -/
def Obligations.PairsAreViewsOfTheCells : Prop :=
  ∀ (s : State) (v : Word),
  s.stkPair .af = concatBytes s.a (flagsToByte s.f) ∧
  s.stkPair .bc = concatBytes s.b s.c ∧ s.stkPair .de = concatBytes s.d s.e ∧
  s.stkPair .hl = concatBytes s.h s.l ∧
  s.pair .bc = concatBytes s.b s.c ∧ s.pair .de = concatBytes s.d s.e ∧
  s.pair .hl = concatBytes s.h s.l ∧
  s.setStkPair .af v = { s with a := highByte v, f := byteToFlags (lowByte v) } ∧
  s.setStkPair .bc v = { s with b := highByte v, c := lowByte v } ∧
  s.setStkPair .de v = { s with d := highByte v, e := lowByte v } ∧
  s.setStkPair .hl v = { s with h := highByte v, l := lowByte v } ∧
  s.setPair .bc v = { s with b := highByte v, c := lowByte v } ∧
  s.setPair .de v = { s with d := highByte v, e := lowByte v } ∧
  s.setPair .hl v = { s with h := highByte v, l := lowByte v } ∧
  concatBytes (highByte v) (lowByte v) = v ∧
  (highByte v).toNat = v.toNat / 256 ∧ (lowByte v).toNat = v.toNat % 256

/-- O3. The seven registers and SP are independent cells, and loc8 names them and the byte at HL. Rests on
10_state.md section 2; 00_scope.md section 4; 30_encoding.md section 3. A register written reads back as the
value, and every other register keeps its value; each register name reads its field, and a write to it changes
that field alone; so does the 16-bit name SP with the field of SP; read and write of a loc8 location are those
of its register, or of the memory byte at HL. -/
def Obligations.RegistersAreIndependentCells : Prop :=
  (∀ (s : State) (r r' : Reg8) (v : Byte), (s.setReg r v).reg r' = if r = r' then v else s.reg r') ∧
  (∀ s : State, s.reg .a = s.a ∧ s.reg .b = s.b ∧ s.reg .c = s.c ∧ s.reg .d = s.d ∧
      s.reg .e = s.e ∧ s.reg .h = s.h ∧ s.reg .l = s.l) ∧
  (∀ (s : State) (v : Byte), s.setReg .a v = { s with a := v } ∧ s.setReg .b v = { s with b := v } ∧
      s.setReg .c v = { s with c := v } ∧ s.setReg .d v = { s with d := v } ∧
      s.setReg .e v = { s with e := v } ∧ s.setReg .h v = { s with h := v } ∧
      s.setReg .l v = { s with l := v }) ∧
  (∀ (s : State) (v : Word), s.pair .sp = s.sp ∧ s.setPair .sp v = { s with sp := v }) ∧
  (∀ s : State, s.readLoc .a = s.a ∧ s.readLoc .b = s.b ∧ s.readLoc .c = s.c ∧ s.readLoc .d = s.d ∧
      s.readLoc .e = s.e ∧ s.readLoc .h = s.h ∧ s.readLoc .l = s.l ∧
      s.readLoc .indHl = s.read (concatBytes s.h s.l)) ∧
  (∀ (s : State) (v : Byte), s.writeLoc .a v = { s with a := v } ∧ s.writeLoc .b v = { s with b := v } ∧
      s.writeLoc .c v = { s with c := v } ∧ s.writeLoc .d v = { s with d := v } ∧
      s.writeLoc .e v = { s with e := v } ∧ s.writeLoc .h v = { s with h := v } ∧
      s.writeLoc .l v = { s with l := v } ∧ s.writeLoc .indHl v = s.write (concatBytes s.h s.l) v)

/-- O4. Every address is plain memory: a read returns the last write, a write changes one byte. Rule R67. In a
state whose memory is canonical, for every address (the high page and 0xFFFF among them): the byte written is
read back, every other byte is unchanged, writing the same byte again changes nothing, writing back the byte
just read changes nothing, and a write changes no part of the state but memory. -/
def Obligations.EveryAddressIsPlainMemory : Prop :=
  ∀ (s : State) (addr : Word) (v : Byte), Inv s →
  (s.write addr v).read addr = v ∧
  (∀ other : Word, other ≠ addr → (s.write addr v).read other = s.read other) ∧
  (s.write addr v).write addr v = s.write addr v ∧
  s.write addr (s.read addr) = s ∧
  s.write addr v = { s with mem := (s.write addr v).mem }

/-- O5. Two canonical memories that read alike are equal. Rests on 20_memory.md section 1. Two canonical
memories that give the same byte at every address are the same list. The canonical form is the model's own (log
entry 2). -/
def Obligations.EqualBytesMeanEqualMemories : Prop :=
  ∀ m m' : Memory, m.wf = true → m'.wf = true →
  (∀ addr : Word, Memory.read addr.toNat m = Memory.read addr.toNat m') → m = m'

/-- O6. Every step keeps the memory in its canonical form. Rests on 20_memory.md section 1. From every state
whose memory has rising addresses below 65536 and no entry equal to what an unlisted address reads as, every
step answers a state with the same property. The canonical form is the model's own (log entry 2). -/
def Obligations.StepKeepsMemoryCanonical : Prop :=
  ∀ s t : State, Inv s → step s = .next t → Inv t

/-- O7. The state after reset. Rests on 70_reset_and_hazards.md section 1; log entries 1, 2 and 3. The reset
state meets the invariant, its status is Running and it lists no memory byte. The model's choices (log entries
1, 2 and 3, DESIGN CHOICE): every register, F, SP, PC and cell is zero, an unlisted byte reads as 0x00,
HALT_MODE is terminal. -/
def Obligations.ResetStateIsCanonicalAndRunning : Prop :=
  Inv State.reset ∧ State.reset.status = .running ∧ State.reset.mem = [] ∧
  State.reset.haltMode = .terminal ∧ (∀ r : Reg8, State.reset.reg r = 0) ∧
  flagsToByte State.reset.f = 0 ∧ State.reset.sp = 0 ∧ State.reset.pc = 0 ∧
  State.reset.ime = 0 ∧ State.reset.ie = 0 ∧ State.reset.ei = 0 ∧
  (∀ addr : Word, State.reset.read addr = 0)

/-- O8. Loading a snapshot. Rule R44. A load sets A to L, F through byte_to_flags (low nibble discarded), SP,
PC, ime, ie and ei from the snapshot and the status to Running; in a canonical memory every byte holds the last
value the ram list gives its address, and a byte not listed keeps its previous contents. -/
def Obligations.SnapshotLoadSetsTheState : Prop :=
  ∀ (s : State) (snap : Snapshot),
  (s.loadSnapshot snap).a = snap.a ∧ (s.loadSnapshot snap).b = snap.b ∧
  (s.loadSnapshot snap).c = snap.c ∧ (s.loadSnapshot snap).d = snap.d ∧
  (s.loadSnapshot snap).e = snap.e ∧ (s.loadSnapshot snap).h = snap.h ∧
  (s.loadSnapshot snap).l = snap.l ∧ (s.loadSnapshot snap).f = byteToFlags snap.f ∧
  flagsToByte (s.loadSnapshot snap).f = snap.f &&& 0xF0 ∧
  (s.loadSnapshot snap).sp = snap.sp ∧ (s.loadSnapshot snap).pc = snap.pc ∧
  (s.loadSnapshot snap).ime = snap.ime ∧ (s.loadSnapshot snap).ie = snap.ie ∧
  (s.loadSnapshot snap).ei = snap.ei ∧ (s.loadSnapshot snap).status = .running ∧
  (Inv s → ∀ addr : Word,
    (s.loadSnapshot snap).read addr = afterStores addr (s.read addr) snap.ram)

/-- O9. Comparing the CPU with a snapshot. Rule R45. The comparison holds exactly when A to L, flags_to_byte of
F, SP, PC and every listed memory byte agree; ime, ie and ei are not compared; a snapshot whose f has a nonzero
low nibble never compares equal. -/
def Obligations.SnapshotCompareChecksTheListedState : Prop :=
  (∀ (s : State) (snap : Snapshot), s.matchesSnapshot snap = true ↔
      s.a = snap.a ∧ s.b = snap.b ∧ s.c = snap.c ∧ s.d = snap.d ∧ s.e = snap.e ∧ s.h = snap.h ∧
      s.l = snap.l ∧ flagsToByte s.f = snap.f ∧ s.sp = snap.sp ∧ s.pc = snap.pc ∧
      (∀ cell ∈ snap.ram, s.read cell.1 = cell.2)) ∧
  (∀ (s : State) (snap : Snapshot) (x y w : Byte),
      s.matchesSnapshot { snap with ime := x, ie := y, ei := w } = s.matchesSnapshot snap) ∧
  (∀ (s : State) (snap : Snapshot), snap.f &&& 0x0F ≠ 0 → s.matchesSnapshot snap = false)

/-- O10. A launch is determined by INIT_MEM, HALT_MODE and the snapshot (canonical memory and kept HALT_MODE:
log entries 2, 1 and 10). Rests on 70_reset_and_hazards.md section 1; 10_state.md section 5; log entries 1, 2
and 10. After a launch every byte the snapshot lists holds the last value listed for it and every other byte
holds INIT_MEM of its address; the status is Running. Nothing else of the state before a load survives it: two
states with the same memory and HALT_MODE are loaded to the same state. The model's own choices (DESIGN CHOICE):
that the memory is in the canonical form, Inv (log entry 2), that HALT_MODE is carried in the state (log entry
1), and that a load keeps it (log entry 10). -/
def Obligations.LaunchTakesInitMemAndSnapshot : Prop :=
  (∀ (cfg : Config) (snap : Snapshot) (addr : Word),
      (State.launch cfg snap).read addr = afterStores addr (cfg.initMem addr) snap.ram) ∧
  (∀ (cfg : Config) (snap : Snapshot), Inv (State.launch cfg snap) ∧
      (State.launch cfg snap).status = .running ∧ (State.launch cfg snap).haltMode = cfg.haltMode) ∧
  (∀ (s t : State) (snap : Snapshot), s.mem = t.mem → s.haltMode = t.haltMode →
      s.loadSnapshot snap = t.loadSnapshot snap)

/-- O11. Exactly eleven plain opcodes have no table entry, and none behind the prefix. Rule R106. decode(op,
false) yields None exactly for the eleven listed opcodes; every CB-prefixed byte decodes; and a running step on
one of the eleven raises DecodeError, recorded in the status with the address and the opcode. -/
def Obligations.ElevenOpcodesHaveNoEntry : Prop :=
  (∀ op : Byte, decodeByte op false = none ↔
      op ∈ ([0xD3, 0xDB, 0xDD, 0xE3, 0xE4, 0xEB, 0xEC, 0xED, 0xF4, 0xFC, 0xFD] : List Byte)) ∧
  (∀ op : Byte, (decodeByte op true).isSome = true) ∧
  (∀ s : State, s.status = .running → decodeByte (s.read s.pc) false = none →
      ∃ t, step s = .next t ∧ t.status = .faulted { addr := s.pc, opcode := s.read s.pc })

/-- O12. Decoding an encoded instruction gives it back, with its immediate, for every instruction. Rests on
30_encoding.md sections 2 to 5. For every well-formed instruction, every immediate and every following bytes,
decoding its encoding followed by those bytes gives the instruction and those bytes. And no bit of an immediate
is lost: in a state that holds the encoding at PC, the executor reads back the immediate (its low byte for a
one-byte immediate, all of it for a two-byte one). -/
def Obligations.DecodeOfEncodeIsTheInstruction : Prop :=
  (∀ (i : Instr) (imm : Word) (rest : List Byte), WellFormed i = true →
      decode (encode i imm ++ rest) = .ok (i, rest)) ∧
  (∀ (i : Instr) (imm : Word) (s : State) (rest : List Byte), WellFormed i = true →
      s.fetchBytes = encode i imm ++ rest →
      (i.format.immediateBytes = 1 → s.imm8 = lowByte imm) ∧
      (i.format.immediateBytes = 2 → s.imm16 = imm))

/-- O13. Every byte string that decodes is an encoding of what it decodes to. Rests on 30_encoding.md sections 2
to 5. If a byte string decodes to an instruction and a remainder, the instruction is well-formed and the string
is an encoding of it, for some immediate, followed by the remainder. -/
def Obligations.DecodedBytesAreAnEncoding : Prop :=
  ∀ (bytes rest : List Byte) (i : Instr), decode bytes = .ok (i, rest) →
  WellFormed i = true ∧ ∃ imm : Word, bytes = encode i imm ++ rest

/-- O14. Each table entry stands at one (prefix, byte) combination only. Rests on 30_encoding.md sections 5 and
6. If two combinations of prefix and byte decode to the same entry they are the same combination: every cell of
the two opcode maps names another instruction. 0x8E is ADC A,(HL) and 0x9E is SBC A,(HL). -/
def Obligations.EachTableEntryHasOneOpcode : Prop :=
  (∀ (x y : Byte) (p q : Bool) (i : Instr),
      decodeByte x p = some i → decodeByte y q = some i → x = y ∧ p = q) ∧
  decodeByte 0x8E false = some (.aluOf .adc .indHl) ∧
  decodeByte 0x9E false = some (.aluOf .sbc .indHl)

/-- O15. The eight formats fix the bytes and the length. Rule R92. The encoding of an instruction is its opcode
byte and then nothing, the low byte of the immediate, or its low and its high byte, as its format says; a CB
instruction is 0xCB and one byte, STOP is 0x10 and a byte of any value; each format has its length; and two
instructions with the same first byte have the same length. -/
def Obligations.FormatsLayOutTheBytes : Prop :=
  (∀ (i : Instr) (imm : Word), WellFormed i = true →
      match i.format with
      | .op => ∃ op, encode i imm = [op]
      | .opN8 => ∃ op, encode i imm = [op, lowByte imm]
      | .opE8 => ∃ op, encode i imm = [op, lowByte imm]
      | .opA8 => ∃ op, encode i imm = [op, lowByte imm]
      | .opN16 => ∃ op, encode i imm = [op, lowByte imm, highByte imm]
      | .opA16 => ∃ op, encode i imm = [op, lowByte imm, highByte imm]
      | .cb => ∃ op, encode i imm = [0xCB, op]
      | .stop => encode i imm = [0x10, lowByte imm]) ∧
  (∀ (i : Instr) (imm : Word), WellFormed i = true → (encode i imm).length = i.length) ∧
  (∀ (i j : Instr) (imm imm' : Word), WellFormed i = true → WellFormed j = true →
      (encode i imm).head? = (encode j imm').head? → i.length = j.length)

/-- O16. The instruction length, which is the PC advance of every instruction that transfers no control. Rests
on R91; R371; log entry 5. Formats without an immediate have length 1, with an 8-bit or high-page immediate or a
displacement 2, with a 16-bit immediate or absolute address 3, CB instructions and STOP 2; LD rr,n16 always has
length 3; an instruction that transfers no control leaves PC that many bytes further (modulo 65536). The row of
an opcode without an entry, whatever its byte, leaves PC: R371, through the constructor noTableEntry, which is
the choice of the model (log entry 5, DESIGN CHOICE). -/
def Obligations.LengthIsThePcAdvance : Prop :=
  (∀ i : Instr, i.length = match i.format with
      | .op => 1
      | .opN8 => 2
      | .opE8 => 2
      | .opA8 => 2
      | .opN16 => 3
      | .opA16 => 3
      | .cb => 2
      | .stop => 2) ∧
  (∀ p : Pair, (Instr.ldN16Of p).length = 3) ∧ Instr.stop.length = 2 ∧
  (∀ op : CbOp, (Instr.cbOf op).length = 2) ∧ (∀ cc : Cond, (Instr.jrOf cc).length = 2) ∧
  Instr.jrE8.length = 2 ∧ Instr.addSpE8.length = 2 ∧ Instr.ldHlSpE8.length = 2 ∧
  (∀ (i : Instr) (s t : State), transfersControl i = false → (∀ op, i ≠ .noTableEntry op) →
      exec i s = .next t → t.pc = s.pc + BitVec.ofNat 16 i.length) ∧
  (∀ (op : Byte) (s t : State), exec (.noTableEntry op) s = .next t → t.pc = s.pc)

/-- O17. The fields of the opcode byte select the operands. Rules R94, R95, R96, R97, R98, R99, R100, R101. The
numbers of the r8, r16, r16stk, r16mem, cc, alu and CB bbb fields are those of the rules, written out. For every
value of these fields, of tgt, and of gg, bbb and rrr behind the prefix, the opcode composed of the fields
decodes to the instruction with those operands. The r8 value 6 is the byte at HL; (HL+) and (HL-) use the old HL
and change it by 1 after; NZ, Z, NC and C hold on the flag named; the unconditional forms have opcodes of their
own; an RST goes to tgt times 8; every byte behind the prefix is an instruction. -/
def Obligations.OpcodeFieldsSelectTheOperands : Prop :=
  (Loc8.field .b = 0 ∧ Loc8.field .c = 1 ∧ Loc8.field .d = 2 ∧ Loc8.field .e = 3 ∧ Loc8.field .h = 4 ∧
      Loc8.field .l = 5 ∧ Loc8.field .indHl = 6 ∧ Loc8.field .a = 7) ∧
  (reg8Number .b = 0 ∧ reg8Number .c = 1 ∧ reg8Number .d = 2 ∧ reg8Number .e = 3 ∧ reg8Number .h = 4 ∧
      reg8Number .l = 5 ∧ reg8Number .a = 7) ∧
  (Pair.field .bc = 0 ∧ Pair.field .de = 1 ∧ Pair.field .hl = 2 ∧ Pair.field .sp = 3) ∧
  (StkPair.field .bc = 0 ∧ StkPair.field .de = 1 ∧ StkPair.field .hl = 2 ∧ StkPair.field .af = 3) ∧
  (MemMode.field .bc = 0 ∧ MemMode.field .de = 1 ∧ MemMode.field .hli = 2 ∧ MemMode.field .hld = 3) ∧
  (Cond.field .nz = 0 ∧ Cond.field .z = 1 ∧ Cond.field .nc = 2 ∧ Cond.field .c = 3) ∧
  (AluOp.field .add = 0 ∧ AluOp.field .adc = 1 ∧ AluOp.field .sub = 2 ∧ AluOp.field .sbc = 3 ∧
      AluOp.field .and = 4 ∧ AluOp.field .xor = 5 ∧ AluOp.field .or = 6 ∧ AluOp.field .cp = 7) ∧
  (∀ s : State, s.readLoc .indHl = s.read (concatBytes s.h s.l)) ∧
  (∀ s : State, s.memModeAddr .bc = concatBytes s.b s.c ∧ s.memModeAddr .de = concatBytes s.d s.e ∧
      s.memModeAddr .hli = concatBytes s.h s.l ∧ s.memModeAddr .hld = concatBytes s.h s.l ∧
      s.memModeStep .bc = s ∧ s.memModeStep .de = s ∧
      s.memModeStep .hli = { s with
        h := highByte (concatBytes s.h s.l + 1), l := lowByte (concatBytes s.h s.l + 1) } ∧
      s.memModeStep .hld = { s with
        h := highByte (concatBytes s.h s.l - 1), l := lowByte (concatBytes s.h s.l - 1) }) ∧
  (∀ f : Flags, condHolds .nz f = decide (f.z = false) ∧ condHolds .z f = decide (f.z = true) ∧
      condHolds .nc f = decide (f.c = false) ∧ condHolds .c f = decide (f.c = true)) ∧
  (decodeByte 0xC3 false = some .jpA16 ∧ decodeByte 0x18 false = some .jrE8 ∧
      decodeByte 0xCD false = some .callA16 ∧ decodeByte 0xC9 false = some .ret) ∧
  (∀ (tgt : Fin 8) (s t : State), exec (.rstOf tgt) s = .next t → t.pc = BitVec.ofNat 16 (8 * tgt.val)) ∧
  (∀ op : Byte, (decodeByte op true).isSome = true) ∧
  (∀ r r' : Reg8, decodeByte (BitVec.ofNat 8 (0x40 + 8 * reg8Number r + reg8Number r')) false
      = some (.ldOf r r')) ∧
  (∀ r : Reg8, decodeByte (BitVec.ofNat 8 (0x46 + 8 * reg8Number r)) false = some (.ldIndHlOf r)) ∧
  (∀ r : Reg8, decodeByte (BitVec.ofNat 8 (0x70 + reg8Number r)) false = some (.stIndHlOf r)) ∧
  (∀ r : Reg8, decodeByte (BitVec.ofNat 8 (0x06 + 8 * reg8Number r)) false = some (.ldN8Of r)) ∧
  (∀ x : Loc8, decodeByte (BitVec.ofNat 8 (0x04 + 8 * x.field)) false = some (.incOf x)) ∧
  (∀ x : Loc8, decodeByte (BitVec.ofNat 8 (0x05 + 8 * x.field)) false = some (.decOf x)) ∧
  (∀ p : Pair, decodeByte (BitVec.ofNat 8 (0x01 + 16 * p.field)) false = some (.ldN16Of p) ∧
      decodeByte (BitVec.ofNat 8 (0x03 + 16 * p.field)) false = some (.incPairOf p) ∧
      decodeByte (BitVec.ofNat 8 (0x0B + 16 * p.field)) false = some (.decPairOf p) ∧
      decodeByte (BitVec.ofNat 8 (0x09 + 16 * p.field)) false = some (.addHlOf p)) ∧
  (∀ p : StkPair, decodeByte (BitVec.ofNat 8 (0xC5 + 16 * p.field)) false = some (.pushOf p) ∧
      decodeByte (BitVec.ofNat 8 (0xC1 + 16 * p.field)) false = some (.popOf p)) ∧
  (∀ m : MemMode, decodeByte (BitVec.ofNat 8 (0x02 + 16 * m.field)) false = some (.stMemOf m) ∧
      decodeByte (BitVec.ofNat 8 (0x0A + 16 * m.field)) false = some (.ldMemOf m)) ∧
  (∀ cc : Cond, decodeByte (BitVec.ofNat 8 (0xC2 + 8 * cc.field)) false = some (.jpOf cc) ∧
      decodeByte (BitVec.ofNat 8 (0x20 + 8 * cc.field)) false = some (.jrOf cc) ∧
      decodeByte (BitVec.ofNat 8 (0xC4 + 8 * cc.field)) false = some (.callOf cc) ∧
      decodeByte (BitVec.ofNat 8 (0xC0 + 8 * cc.field)) false = some (.retOf cc)) ∧
  (∀ (op : AluOp) (r : Reg8),
      decodeByte (BitVec.ofNat 8 (0x80 + 8 * op.field + reg8Number r)) false = some (.aluOf op (.reg r)) ∧
      decodeByte (BitVec.ofNat 8 (0x86 + 8 * op.field)) false = some (.aluOf op .indHl) ∧
      decodeByte (BitVec.ofNat 8 (0xC6 + 8 * op.field)) false = some (.aluOf op .n8)) ∧
  (∀ tgt : Fin 8, decodeByte (BitVec.ofNat 8 (0xC7 + 8 * tgt.val)) false = some (.rstOf tgt)) ∧
  (∀ x : Loc8, decodeByte (BitVec.ofNat 8 (8 * 0 + x.field)) true = some (.rotOf .rlc x) ∧
      decodeByte (BitVec.ofNat 8 (8 * 1 + x.field)) true = some (.rotOf .rrc x) ∧
      decodeByte (BitVec.ofNat 8 (8 * 2 + x.field)) true = some (.rotOf .rl x) ∧
      decodeByte (BitVec.ofNat 8 (8 * 3 + x.field)) true = some (.rotOf .rr x) ∧
      decodeByte (BitVec.ofNat 8 (8 * 4 + x.field)) true = some (.rotOf .sla x) ∧
      decodeByte (BitVec.ofNat 8 (8 * 5 + x.field)) true = some (.rotOf .sra x) ∧
      decodeByte (BitVec.ofNat 8 (8 * 6 + x.field)) true = some (.rotOf .swap x) ∧
      decodeByte (BitVec.ofNat 8 (8 * 7 + x.field)) true = some (.rotOf .srl x)) ∧
  (∀ (n : BitVec 3) (x : Loc8),
      decodeByte (BitVec.ofNat 8 (0x40 + 8 * n.toNat + x.field)) true = some (.bitBR n x) ∧
      decodeByte (BitVec.ofNat 8 (0x80 + 8 * n.toNat + x.field)) true = some (.resBR n x) ∧
      decodeByte (BitVec.ofNat 8 (0xC0 + 8 * n.toNat + x.field)) true = some (.setBR n x))

/-- O18. Sample words of each family decode as the opcode maps say, an empty cell and short strings as the model
chose (log entries 5, 7). Rests on 30_encoding.md section 5; log entries 5 and 7. Bytes written out from the
opcode maps, one or more for each family, decode to the instruction in that cell. Four conjuncts are the choices
of the model: 0xED, an empty cell, decodes to the row noTableEntry (log entry 5, DESIGN CHOICE), and the strings
CB, C3 50 and the empty one are refused by the names truncated and empty (log entry 7). -/
def Obligations.SampleWordsDecodeAsTheMapsSay : Prop :=
  decode [0x8E] = .ok (.adcAIndHl, []) ∧ decode [0xD6, 0x01] = .ok (.subAN8, []) ∧
  decode [0x35] = .ok (.decIndHl, []) ∧ decode [0x27] = .ok (.daa, []) ∧
  decode [0x39] = .ok (.addHlSp, []) ∧ decode [0xF8, 0xFE] = .ok (.ldHlSpE8, []) ∧
  decode [0x1F] = .ok (.rra, []) ∧ decode [0xCB, 0x36] = .ok (.swapR .indHl, []) ∧
  decode [0xCB, 0x7C] = .ok (.bitBR 7 .h, []) ∧ decode [0xCB, 0x87] = .ok (.resBR 0 .a, []) ∧
  decode [0xCB, 0xDE] = .ok (.setBR 3 .indHl, []) ∧
  decode [0xDC, 0x00, 0x50] = .ok (.callCA16, []) ∧ decode [0x20, 0xFB] = .ok (.jrNzE8, []) ∧
  decode [0xD9] = .ok (.reti, []) ∧ decode [0xEF] = .ok (.rst28, []) ∧ decode [0xF1] = .ok (.popAf, []) ∧
  decode [0x66] = .ok (.ldHIndHl, []) ∧ decode [0x32] = .ok (.ldIndHldA, []) ∧
  decode [0xE0, 0x40, 0x99] = .ok (.ldhIndA8A, [0x99]) ∧
  decode [0x08, 0x00, 0xC1] = .ok (.ldIndA16Sp, []) ∧ decode [0x76] = .ok (.halt, []) ∧
  decode [0x10, 0xAA] = .ok (.stop, []) ∧ decode [0xED] = .ok (.noTableEntry 0xED, []) ∧
  decode [0xCB] = .error (.truncated 2) ∧ decode [0xC3, 0x50] = .error (.truncated 3) ∧
  decode [] = .error .empty

/-- O19. A running step decodes the bytes at PC and executes the instruction, the EI delay in between. Rests on
R90; R106; log entries 5, 11 and 12. In a running state the three bytes at PC always decode to a well-formed
instruction; if it has a table entry, step is exec of it at the state whose ime is 1 and ei is 0 if ei was not
0, and the state itself otherwise; if it has none, step raises DecodeError with PC and the opcode. No step
exists in another status. exec assigns next_pc to PC; execute returns next_pc and leaves PC. The form of these
clauses is the choice of the model: the bytes always decode because an opcode without an entry decodes to the
row noTableEntry where R90 and R106 say None (log entry 5, DESIGN CHOICE), three bytes are fetched whatever the
opcode (log entry 12, DEDUCED), and exec assigns PC, execute being derived from it (log entry 11, DEDUCED). -/
def Obligations.StepRunsTheDecodedInstruction : Prop :=
  (∀ s : State, ∃ i rest, decode s.fetchBytes = .ok (i, rest) ∧ WellFormed i = true) ∧
  (∀ (s : State) (i : Instr) (rest : List Byte), s.status = .running →
      decode s.fetchBytes = .ok (i, rest) → (∀ op, i ≠ .noTableEntry op) →
      step s = exec i { s with ime := if s.ei = 0 then s.ime else 1, ei := 0 }) ∧
  (∀ (s : State) (op : Byte) (rest : List Byte), s.status = .running →
      decode s.fetchBytes = .ok (.noTableEntry op, rest) →
      op = s.read s.pc ∧ step s = exec (.noTableEntry op) s ∧
      step s = .next { s with status := .faulted { addr := s.pc, opcode := s.read s.pc } }) ∧
  (∀ s t : State, s.status ≠ .running → step s ≠ .next t) ∧
  (∀ (i : Instr) (s t : State), exec i s = .next t →
      execute i s = some ({ t with pc := s.pc }, t.pc))

/-- O20. Only Running has a step, and only HALT, STOP and a DecodeError end it. Rests on R40; log entry 6. A
step answers a next state exactly when the status is Running, and names the status otherwise. After a step the
status is Halted exactly if the opcode is 0x76 and HALT_MODE is terminal, Stopped exactly if it is 0x10 and
HALT_MODE is terminal, Faulted exactly if the opcode has no table entry (recording PC and the opcode), and
Running in every other case. A snapshot load makes it Running. That step answers a named fault in a status
without a step (the second, third and fourth clause) is the choice of the model: R40 says only that there is no
step (log entry 6, DESIGN CHOICE). -/
def Obligations.RunStatusChangesOnlyAsStated : Prop :=
  (∀ s : State, (∃ t, step s = .next t) ↔ s.status = .running) ∧
  (∀ s : State, s.status = .halted → step s = .fault .halted) ∧
  (∀ s : State, s.status = .stopped → step s = .fault .stopped) ∧
  (∀ (s : State) (info : DecodeError), s.status = .faulted info → step s = .fault (.faulted info)) ∧
  (∀ s t : State, step s = .next t →
      (t.status = .halted ↔ s.read s.pc = 0x76 ∧ s.haltMode = .terminal) ∧
      (t.status = .stopped ↔ s.read s.pc = 0x10 ∧ s.haltMode = .terminal) ∧
      (∀ info : DecodeError, t.status = .faulted info ↔
        s.read s.pc ∈ unusedOpcodes ∧ info = { addr := s.pc, opcode := s.read s.pc })) ∧
  (∀ (s : State) (snap : Snapshot), (s.loadSnapshot snap).status = .running)

/-- O21. Taking a DecodeError changes nothing but the status, which then stays. Rests on R371; R372; log entries
5 and 6. A running step on one of the eleven opcodes changes the status to Faulted with PC and the opcode and
nothing else (registers, flags, SP, PC, memory, ime, ie, ei kept: nothing is saved, no vector is taken, no EI
promotion), and reports it to the caller; the state it leaves has no step; only a snapshot load makes it
Running. The row of such an opcode has that meaning. Choices of the model: that step answers a named fault in
Faulted (log entry 6, DESIGN CHOICE); that the result given to the caller is stepReport, read off the status,
and that the opcodes without an entry are a row, noTableEntry, which has that meaning for any byte (log entry 5,
DESIGN CHOICE). -/
def Obligations.DecodeErrorIsPreciseAndPermanent : Prop :=
  (∀ s : State, s.status = .running → s.read s.pc ∈ unusedOpcodes →
      step s = .next { s with status := .faulted { addr := s.pc, opcode := s.read s.pc } } ∧
      stepReport s = some { addr := s.pc, opcode := s.read s.pc }) ∧
  (∀ (s : State) (info : DecodeError), s.status = .faulted info →
      step s = .fault (.faulted info) ∧ stepReport s = none) ∧
  (∀ (s : State) (snap : Snapshot), (s.loadSnapshot snap).status = .running) ∧
  (∀ (op : Byte) (s : State), exec (.noTableEntry op) s
      = .next { s with status := .faulted { addr := s.pc, opcode := op } })

/-- O22. A run ends once, final or faulted, or is infinite. Rests on 60_exceptions.md section 4; 10_state.md
section 3. Every run from a state is final at some step (Halted or Stopped), or has faulted at some step, or
stays Running forever, and no two of these hold of one run; once its status is not Running the state never
changes again; a run from a Running state with HALT_MODE nop is never final, and HALT_MODE never changes. -/
def Obligations.EveryRunIsFinalFaultedOrInfinite : Prop :=
  (∀ s : State, (∃ n, (stateAfter n s).isFinal = true) ∨ (∃ n, (stateAfter n s).hasFaulted = true) ∨
      (∀ n, (stateAfter n s).status = .running)) ∧
  (∀ (s : State) (n m : Nat), (stateAfter n s).isFinal = true →
      (stateAfter m s).hasFaulted = false ∧ ∃ k, (stateAfter k s).status ≠ .running) ∧
  (∀ (s : State) (n : Nat), (stateAfter n s).hasFaulted = true → ∃ k, (stateAfter k s).status ≠ .running) ∧
  (∀ (s : State) (n k : Nat), (stateAfter n s).status ≠ .running → stateAfter (n + k) s = stateAfter n s) ∧
  (∀ (s : State) (n : Nat), s.status = .running → s.haltMode = .nop → (stateAfter n s).isFinal = false) ∧
  (∀ (s : State) (n : Nat), (stateAfter n s).haltMode = s.haltMode)

/-- O23. EI sets the pending cell, and the next step whose opcode decodes sets ime before it executes. Rule
R344. EI (0xFB, one byte) sets ei to 1 and changes ime not at all; a running step in a state with ei not 0 whose
opcode has an entry executes its instruction in the state with ime 1 and ei 0; if the opcode has no entry the
promotion does not happen; EI then EI leaves ime 1 and ei 1. -/
def Obligations.EiTakesEffectInTheNextStep : Prop :=
  Instr.ei.opcodeBytes = [0xFB] ∧ Instr.ei.length = 1 ∧
  (∀ s : State, exec .ei s = .next { s with ei := 1, pc := s.pc + 1 }) ∧
  (∀ (s : State) (i : Instr), s.status = .running → s.ei ≠ 0 →
      decodeEntry (s.read s.pc) (s.read (s.pc + 1)) = some i →
      step s = exec i { s with ime := 1, ei := 0 }) ∧
  (∀ s t : State, s.status = .running → decodeEntry (s.read s.pc) (s.read (s.pc + 1)) = none →
      step s = .next t → t.ime = s.ime ∧ t.ei = s.ei) ∧
  (∀ s : State, s.status = .running → s.ei ≠ 0 → s.read s.pc = 0xFB →
      step s = .next { s with ime := 1, ei := 1, pc := s.pc + 1 })

/-- O24. No result, branch or memory access depends on ime, ie or ei. Rule R39. Two states that agree on
everything but ime, ie and ei step to outcomes that agree on everything but those cells (the same fault if one
faults). A step never writes ie; it writes ime or ei only through the EI delay or DI, EI, RETI. ie is not the
memory byte at 0xFFFF: writing either leaves the other. A snapshot load writes all three. -/
def Obligations.SnapshotCellsNeverInfluenceExecution : Prop :=
  (∀ s t : State, AgreeButCells s t → OutcomesAgreeButCells (step s) (step t)) ∧
  (∀ s t : State, step s = .next t → t.ie = s.ie) ∧
  (∀ s t : State, step s = .next t → s.ei = 0 →
      s.read s.pc ∉ ([0xF3, 0xFB, 0xD9] : List Byte) → t.ime = s.ime ∧ t.ei = s.ei) ∧
  (∀ (s : State) (v : Byte), (s.write 0xFFFF v).ie = s.ie ∧
      ({ s with ie := v } : State).read 0xFFFF = s.read 0xFFFF) ∧
  (∀ (s : State) (snap : Snapshot), (s.loadSnapshot snap).ime = snap.ime ∧
      (s.loadSnapshot snap).ie = snap.ie ∧ (s.loadSnapshot snap).ei = snap.ei)

/-- O25. Every instruction answers a next state in every state. Rests on 60_exceptions.md section 1. For every
instruction and every state, exec answers a next state: no fault and no refusal, whatever the operands, the
flags, the memory or HALT_MODE; and every running step answers one. (For a row without a table entry that state
is the DecodeError entry.) -/
def Obligations.EveryInstructionCompletes : Prop :=
  (∀ (i : Instr) (s : State), ∃ t, exec i s = .next t) ∧
  (∀ s : State, s.status = .running → ∃ t, step s = .next t)

/-- O26. Frame: registers, SP, cells and status outside the rule are kept. Rests on 10_state.md section 2;
44_control.md; 45_load.md; 47_misc.md. For every instruction, when exec gives a next state, every register, SP,
ime, ie, ei, the status and HALT_MODE are unchanged except those writtenBy names for it: the destination
register(s), H and L of the stepping modes, SP of the stack instructions and SP arithmetic, ime of RETI and DI,
ei of DI and EI, the status of HALT, STOP and a DecodeError. -/
def Obligations.OnlyTheNamedElementsAreWritten : Prop :=
  ∀ (i : Instr) (s t : State), exec i s = .next t → AgreeOutside (writtenBy i s) s t

/-- O27. Frame: every byte of memory outside the stores is kept, and the stored bytes are as named. Rests on
20_memory.md sections 4 and 5; 44_control.md section 4; 45_load.md. For every instruction, in a state whose
memory is canonical, when exec gives a next state, every address reads as the last byte storedBy gives it, and
as before where storedBy names no store: for every address outside the stored bytes reading it gives what it
gave, for a form that stores nothing every address does. storedBy computes the addresses with the meanings' own
operand functions. -/
def Obligations.OnlyTheNamedBytesAreStored : Prop :=
  ∀ (i : Instr) (s t : State), Inv s → exec i s = .next t →
  ∀ addr : Word, t.read addr = afterStores addr (s.read addr) (storedBy i s)

/-- O28. The table of flag writers, and its readers. Rule R42. For every instruction, each flag is cleared, set,
free to be computed or kept as its row of the table says (computed flags are given by the instruction
statements). And an instruction reads only the flags listed for it: if the flags it does not read are changed
before it, the next state differs in nothing but the kept flags. -/
def Obligations.FlagsFollowTheWritersAndReadersTable : Prop :=
  (∀ (i : Instr) (s t : State), exec i s = .next t →
      (flagRowOf i s).z.obeyed s.f.z t.f.z ∧ (flagRowOf i s).n.obeyed s.f.n t.f.n ∧
      (flagRowOf i s).h.obeyed s.f.h t.f.h ∧ (flagRowOf i s).c.obeyed s.f.c t.f.c) ∧
  (∀ (i : Instr) (s t : State) (g : Flags), exec i s = .next t →
      ((flagsReadBy i s).z = true → g.z = s.f.z) → ((flagsReadBy i s).n = true → g.n = s.f.n) →
      ((flagsReadBy i s).h = true → g.h = s.f.h) → ((flagsReadBy i s).c = true → g.c = s.f.c) →
      ∃ u, exec i { s with f := g } = .next u ∧ u = { t with f := u.f } ∧
        (u.f.z = if (flagRowOf i s).z = .kept then g.z else t.f.z) ∧
        (u.f.n = if (flagRowOf i s).n = .kept then g.n else t.f.n) ∧
        (u.f.h = if (flagRowOf i s).h = .kept then g.h else t.f.h) ∧
        (u.f.c = if (flagRowOf i s).c = .kept then g.c else t.f.c))

/-- O29. ADD A,x. Rule R131. ADD: A becomes the sum modulo 256; Z is set iff it is 0, N cleared, H set iff the
low nibbles sum above 15, C set iff the sum is above 255; for a register, (HL) and n8 operand alike, in every
state; nothing else changes and PC moves past the instruction (1 byte, 2 with n8); its opcodes are those of the
rule. -/
def Obligations.AddSetsAccumulatorAndFlags : Prop :=
  ∀ (src : AluSrc) (s : State),
  (Instr.aluOf .add src).opcodeBytes = [operandOpcode 0x80 0xC6 src] ∧
  (Instr.aluOf .add src).length = operandLength src ∧
  let a := s.a.toNat
  let v := (operandValue src s).toNat
  exec (.aluOf .add src) s = .next
    { s with
      a := BitVec.ofNat 8 (a + v)
      f := { z := decide ((a + v) % 256 = 0)
             n := false
             h := decide (a % 16 + v % 16 > 15)
             c := decide (a + v > 255) }
      pc := s.pc + BitVec.ofNat 16 (operandLength src) }

/-- O30. ADC A,x. Rule R132. ADC: as ADD with the old carry added to the sum and to the nibble sum; for a
register, (HL) and n8 operand alike, in every state; nothing else changes and PC moves past the instruction (1
byte, 2 with n8); its opcodes are those of the rule. -/
def Obligations.AdcAddsTheCarryIn : Prop :=
  ∀ (src : AluSrc) (s : State),
  (Instr.aluOf .adc src).opcodeBytes = [operandOpcode 0x88 0xCE src] ∧
  (Instr.aluOf .adc src).length = operandLength src ∧
  let a := s.a.toNat
  let v := (operandValue src s).toNat
  let c := if s.f.c then 1 else 0
  exec (.aluOf .adc src) s = .next
    { s with
      a := BitVec.ofNat 8 (a + v + c)
      f := { z := decide ((a + v + c) % 256 = 0)
             n := false
             h := decide (a % 16 + v % 16 + c > 15)
             c := decide (a + v + c > 255) }
      pc := s.pc + BitVec.ofNat 16 (operandLength src) }

/-- O31. SUB A,x. Rule R133. SUB: A becomes the difference modulo 256; Z is set iff it is 0, N set, H set iff
the low nibbles borrow, C set iff A is below the operand; for a register, (HL) and n8 operand alike, in every
state; nothing else changes and PC moves past the instruction (1 byte, 2 with n8); its opcodes are those of the
rule. -/
def Obligations.SubSetsAccumulatorAndFlags : Prop :=
  ∀ (src : AluSrc) (s : State),
  (Instr.aluOf .sub src).opcodeBytes = [operandOpcode 0x90 0xD6 src] ∧
  (Instr.aluOf .sub src).length = operandLength src ∧
  let a := s.a.toNat
  let v := (operandValue src s).toNat
  exec (.aluOf .sub src) s = .next
    { s with
      a := BitVec.ofInt 8 ((a : Int) - v)
      f := { z := decide (((a : Int) - v) % 256 = 0)
             n := true
             h := decide (a % 16 < v % 16)
             c := decide (a < v) }
      pc := s.pc + BitVec.ofNat 16 (operandLength src) }

/-- O32. SBC A,x. Rule R134. SBC: as SUB with the old carry subtracted too; for a register, (HL) and n8 operand
alike, in every state; nothing else changes and PC moves past the instruction (1 byte, 2 with n8); its opcodes
are those of the rule. -/
def Obligations.SbcSubtractsTheBorrowIn : Prop :=
  ∀ (src : AluSrc) (s : State),
  (Instr.aluOf .sbc src).opcodeBytes = [operandOpcode 0x98 0xDE src] ∧
  (Instr.aluOf .sbc src).length = operandLength src ∧
  let a := s.a.toNat
  let v := (operandValue src s).toNat
  let c : Nat := if s.f.c then 1 else 0
  exec (.aluOf .sbc src) s = .next
    { s with
      a := BitVec.ofInt 8 ((a : Int) - v - c)
      f := { z := decide (((a : Int) - v - c) % 256 = 0)
             n := true
             h := decide (a % 16 < v % 16 + c)
             c := decide (a < v + c) }
      pc := s.pc + BitVec.ofNat 16 (operandLength src) }

/-- O33. AND A,x, XOR A,x and OR A,x. Rules R135, R136, R137. AND, XOR and OR: A becomes the bitwise and,
exclusive or, or of A and the operand; Z is set iff it is 0, N and C cleared, H set by AND and cleared by XOR
and OR; for a register, (HL) and n8 operand alike, in every state; nothing else changes and PC moves past the
instruction (1 byte, 2 with n8); its opcodes are those of the rules. -/
def Obligations.LogicSetsAccumulatorAndFlags : Prop :=
  ∀ (src : AluSrc) (s : State),
  (Instr.aluOf .and src).opcodeBytes = [operandOpcode 0xA0 0xE6 src] ∧
  (Instr.aluOf .xor src).opcodeBytes = [operandOpcode 0xA8 0xEE src] ∧
  (Instr.aluOf .or src).opcodeBytes = [operandOpcode 0xB0 0xF6 src] ∧
  (Instr.aluOf .and src).length = operandLength src ∧ (Instr.aluOf .xor src).length = operandLength src ∧
  (Instr.aluOf .or src).length = operandLength src ∧
  let v := operandValue src s
  let pc := s.pc + BitVec.ofNat 16 (operandLength src)
  exec (.aluOf .and src) s = .next
    { s with a := s.a &&& v, f := { z := decide (s.a &&& v = 0), n := false, h := true, c := false }, pc := pc } ∧
  exec (.aluOf .xor src) s = .next
    { s with a := s.a ^^^ v, f := { z := decide (s.a ^^^ v = 0), n := false, h := false, c := false }, pc := pc } ∧
  exec (.aluOf .or src) s = .next
    { s with a := s.a ||| v, f := { z := decide (s.a ||| v = 0), n := false, h := false, c := false }, pc := pc }

/-- O34. CP A,x. Rule R138. CP: the flags of SUB, and A is not written; for a register, (HL) and n8 operand
alike, in every state; nothing else changes and PC moves past the instruction (1 byte, 2 with n8); its opcodes
are those of the rule. -/
def Obligations.CpSetsFlagsAndKeepsAccumulator : Prop :=
  ∀ (src : AluSrc) (s : State),
  (Instr.aluOf .cp src).opcodeBytes = [operandOpcode 0xB8 0xFE src] ∧
  (Instr.aluOf .cp src).length = operandLength src ∧
  let a := s.a.toNat
  let v := (operandValue src s).toNat
  exec (.aluOf .cp src) s = .next
    { s with
      f := { z := decide (a = v)
             n := true
             h := decide (a % 16 < v % 16)
             c := decide (a < v) }
      pc := s.pc + BitVec.ofNat 16 (operandLength src) }

/-- O35. INC r8. Rule R139. INC of each register and of (HL): the location gets the old value plus 1 modulo 256,
Z set iff that is 0, N cleared, H set iff the old low nibble is 15, C kept, PC one further, nothing else changed
(HL is not). -/
def Obligations.IncByteSetsLocationAndFlags : Prop :=
  ∀ (x : Loc8) (s : State),
  (Instr.incOf x).opcodeBytes = [BitVec.ofNat 8 (0x04 + 8 * x.field)] ∧ (Instr.incOf x).length = 1 ∧
  exec (.incOf x) s = .next
    { s.writeLoc x (BitVec.ofNat 8 ((s.readLoc x).toNat + 1)) with
      f := { z := decide (((s.readLoc x).toNat + 1) % 256 = 0)
             n := false
             h := decide ((s.readLoc x).toNat % 16 + 1 > 15)
             c := s.f.c }
      pc := s.pc + 1 }

/-- O36. DEC r8. Rule R140. DEC of each register and of (HL): the location gets the old value minus 1 modulo
256, Z set iff that is 0, N set, H set iff the old low nibble is 0, C kept, PC one further, nothing else
changed. -/
def Obligations.DecByteSetsLocationAndFlags : Prop :=
  ∀ (x : Loc8) (s : State),
  (Instr.decOf x).opcodeBytes = [BitVec.ofNat 8 (0x05 + 8 * x.field)] ∧ (Instr.decOf x).length = 1 ∧
  exec (.decOf x) s = .next
    { s.writeLoc x (BitVec.ofNat 8 ((s.readLoc x).toNat + 255)) with
      f := { z := decide ((s.readLoc x).toNat = 1)
             n := true
             h := decide ((s.readLoc x).toNat % 16 = 0)
             c := s.f.c }
      pc := s.pc + 1 }

/-- O37. DAA. Rule R141. DAA for every A and every flags: after an addition 6 is added if H is set or the low
nibble is above 9, and 0x60 if C is set or A is above 0x99, which then sets C; after a subtraction 6 is
subtracted if H is set and 0x60 if C is set, C kept. Z is set iff the result is 0, N kept, H cleared, PC one
further, nothing else changed. -/
def Obligations.DaaAdjustsAsStated : Prop :=
  ∀ s : State,
  Instr.daa.opcodeBytes = [0x27] ∧ Instr.daa.length = 1 ∧
  (s.f.n = false →
    let a := s.a.toNat
    let low := if s.f.h = true ∨ a % 16 > 9 then 6 else 0
    let high := if s.f.c = true ∨ a > 0x99 then 0x60 else 0
    exec .daa s = .next
      { s with
        a := BitVec.ofNat 8 (a + low + high)
        f := { z := decide ((a + low + high) % 256 = 0)
               n := s.f.n
               h := false
               c := decide (s.f.c = true ∨ a > 0x99) }
        pc := s.pc + 1 }) ∧
  (s.f.n = true →
    let a : Int := s.a.toNat
    let low : Int := if s.f.h = true then 6 else 0
    let high : Int := if s.f.c = true then 0x60 else 0
    exec .daa s = .next
      { s with
        a := BitVec.ofInt 8 (a - low - high)
        f := { z := decide ((a - low - high) % 256 = 0)
               n := s.f.n
               h := false
               c := s.f.c }
        pc := s.pc + 1 })

/-- O38. ADD or SUB of two BCD numbers, then DAA, gives the BCD sum or difference. Rests on 40_alu8.md sections
2 and 5. For every two numbers below 100 in A and the operand as two-digit BCD: ADD then DAA leaves the BCD of
their sum modulo 100 in A and sets C iff the sum is 100 or more; SUB then DAA leaves the BCD of their difference
modulo 100 and sets C iff the first is below the second. For every operand form. -/
def Obligations.DaaCorrectsBcdSumsAndDifferences : Prop :=
  ∀ (x y : Fin 100) (src : AluSrc) (s : State), s.a = bcd x.val → operandValue src s = bcd y.val →
  (∃ t u, exec (.aluOf .add src) s = .next t ∧ exec .daa t = .next u ∧
    u.a = bcd ((x.val + y.val) % 100) ∧ u.f.c = decide (100 ≤ x.val + y.val)) ∧
  (∃ t u, exec (.aluOf .sub src) s = .next t ∧ exec .daa t = .next u ∧
    u.a = bcd ((x.val + 100 - y.val) % 100) ∧ u.f.c = decide (x.val < y.val))

/-- O39. CPL, SCF and CCF. Rules R142, R143, R144. CPL complements A and sets N and H, keeping Z and C; SCF sets
C and CCF inverts it, each clearing N and H and keeping Z; PC one further, nothing else changed. -/
def Obligations.CplScfCcfTouchOnlyTheirFlags : Prop :=
  Instr.cpl.opcodeBytes = [0x2F] ∧ Instr.scf.opcodeBytes = [0x37] ∧ Instr.ccf.opcodeBytes = [0x3F] ∧
  Instr.cpl.length = 1 ∧ Instr.scf.length = 1 ∧ Instr.ccf.length = 1 ∧
  ∀ s : State,
    exec .cpl s = .next
      { s with a := ~~~s.a, f := { z := s.f.z, n := true, h := true, c := s.f.c }, pc := s.pc + 1 } ∧
    exec .scf s = .next
      { s with f := { z := s.f.z, n := false, h := false, c := true }, pc := s.pc + 1 } ∧
    exec .ccf s = .next
      { s with f := { z := s.f.z, n := false, h := false, c := !s.f.c }, pc := s.pc + 1 }

/-- O40. ADD HL,rr. Rule R170. ADD HL with BC, DE, HL and SP: HL becomes the sum modulo 65536, Z kept, N
cleared, H the carry out of bit 11, C the carry out of bit 15, PC one further, nothing else changed. -/
def Obligations.AddHlSetsHlAndFlags : Prop :=
  ∀ (p : Pair) (s : State),
  (Instr.addHlOf p).opcodeBytes = [BitVec.ofNat 8 (0x09 + 16 * p.field)] ∧ (Instr.addHlOf p).length = 1 ∧
  let h := (concatBytes s.h s.l).toNat
  let v := (match p with
    | .bc => concatBytes s.b s.c
    | .de => concatBytes s.d s.e
    | .hl => concatBytes s.h s.l
    | .sp => s.sp).toNat
  exec (.addHlOf p) s = .next
    { s with
      h := highByte (BitVec.ofNat 16 (h + v))
      l := lowByte (BitVec.ofNat 16 (h + v))
      f := { z := s.f.z
             n := false
             h := decide (h % 4096 + v % 4096 > 4095)
             c := decide (h + v > 65535) }
      pc := s.pc + 1 }

/-- O41. INC rr and DEC rr. Rules R171, R172. INC and DEC of BC, DE, HL and SP: the pair changes by 1 modulo
65536, no flag is written, PC one further, nothing else changed. -/
def Obligations.IncDecPairWrapAndKeepFlags : Prop :=
  (∀ p : Pair, (Instr.incPairOf p).opcodeBytes = [BitVec.ofNat 8 (0x03 + 16 * p.field)] ∧
    (Instr.decPairOf p).opcodeBytes = [BitVec.ofNat 8 (0x0B + 16 * p.field)] ∧
    (Instr.incPairOf p).length = 1 ∧ (Instr.decPairOf p).length = 1) ∧
  ∀ s : State,
    let up (v : Word) := BitVec.ofNat 16 (v.toNat + 1)
    let down (v : Word) := BitVec.ofNat 16 (v.toNat + 65535)
    let bc := concatBytes s.b s.c
    let de := concatBytes s.d s.e
    let hl := concatBytes s.h s.l
    exec (.incPairOf .bc) s = .next
      { s with b := highByte (up bc), c := lowByte (up bc), pc := s.pc + 1 } ∧
    exec (.incPairOf .de) s = .next
      { s with d := highByte (up de), e := lowByte (up de), pc := s.pc + 1 } ∧
    exec (.incPairOf .hl) s = .next
      { s with h := highByte (up hl), l := lowByte (up hl), pc := s.pc + 1 } ∧
    exec (.incPairOf .sp) s = .next { s with sp := up s.sp, pc := s.pc + 1 } ∧
    exec (.decPairOf .bc) s = .next
      { s with b := highByte (down bc), c := lowByte (down bc), pc := s.pc + 1 } ∧
    exec (.decPairOf .de) s = .next
      { s with d := highByte (down de), e := lowByte (down de), pc := s.pc + 1 } ∧
    exec (.decPairOf .hl) s = .next
      { s with h := highByte (down hl), l := lowByte (down hl), pc := s.pc + 1 } ∧
    exec (.decPairOf .sp) s = .next { s with sp := down s.sp, pc := s.pc + 1 }

/-- O42. ADD SP,e8 and LD HL,SP+e8. Rules R173, R174. Both compute SP plus the sign-extended e8 modulo 65536,
into SP or into HL (SP then kept); Z and N are cleared, H and C are the carries out of bits 3 and 7 of the
unsigned sum of the low byte of SP and the offset byte; PC two further, nothing else changed. -/
def Obligations.SpOffsetFlagsComeFromTheLowByte : Prop :=
  Instr.addSpE8.opcodeBytes = [0xE8] ∧ Instr.ldHlSpE8.opcodeBytes = [0xF8] ∧
  Instr.addSpE8.length = 2 ∧ Instr.ldHlSpE8.length = 2 ∧
  ∀ s : State,
    let o := (s.read (s.pc + 1)).toNat
    let sum := BitVec.ofNat 16 (s.sp.toNat + (if o < 128 then o else o + 65280))
    let f : Flags :=
      { z := false
        n := false
        h := decide (s.sp.toNat % 16 + o % 16 > 15)
        c := decide (s.sp.toNat % 256 + o > 255) }
    exec .addSpE8 s = .next { s with sp := sum, f := f, pc := s.pc + 2 } ∧
    exec .ldHlSpE8 s = .next { s with h := highByte sum, l := lowByte sum, f := f, pc := s.pc + 2 }

/-- O43. RLCA, RRCA, RLA and RRA. Rules R190, R191, R192, R193. Each rotates A as its rule says (numbers:
rotNumbers of RLC, RRC, RL, RR), C becomes the bit shifted out, Z is cleared even for a zero result, N and H
cleared, PC one further, nothing else changed. -/
def Obligations.AccumulatorRotatesClearZero : Prop :=
  Instr.rlca.opcodeBytes = [0x07] ∧ Instr.rrca.opcodeBytes = [0x0F] ∧ Instr.rla.opcodeBytes = [0x17] ∧
  Instr.rra.opcodeBytes = [0x1F] ∧ (∀ op : AccRot, (Instr.accRotOf op).length = 1) ∧
  ∀ (op : AccRot) (s : State),
    let cin := if s.f.c then 1 else 0
    let r := match op with
      | .rlca => rotNumbers .rlc s.a.toNat cin
      | .rrca => rotNumbers .rrc s.a.toNat cin
      | .rla => rotNumbers .rl s.a.toNat cin
      | .rra => rotNumbers .rr s.a.toNat cin
    exec (.accRotOf op) s = .next
      { s with
        a := BitVec.ofNat 8 r.1
        f := { z := false, n := false, h := false, c := decide (r.2 = 1) }
        pc := s.pc + 1 }

/-- O44. RLC, RRC, RL, RR, SLA, SRA, SWAP and SRL. Rules R194, R195, R196, R197, R198, R199, R200, R201, R202.
Each CB rotate, shift and SWAP of each register and of (HL): the location gets the result its rule gives (as
numbers, rotNumbers), Z set iff it is 0, N and H cleared, C the bit shifted out (SWAP clears it), PC two
further, nothing else changed (HL is not). -/
def Obligations.CbRotatesSetLocationAndFlags : Prop :=
  ∀ (op : RotOp) (x : Loc8) (s : State),
  let bbb := match op with
    | .rlc => 0
    | .rrc => 1
    | .rl => 2
    | .rr => 3
    | .sla => 4
    | .sra => 5
    | .swap => 6
    | .srl => 7
  (Instr.rotOf op x).opcodeBytes = [0xCB, BitVec.ofNat 8 (8 * bbb + x.field)] ∧
  (Instr.rotOf op x).length = 2 ∧
  let r := rotNumbers op (s.readLoc x).toNat (if s.f.c then 1 else 0)
  exec (.rotOf op x) s = .next
    { s.writeLoc x (BitVec.ofNat 8 r.1) with
      f := { z := decide (r.1 = 0), n := false, h := false, c := decide (r.2 = 1) }
      pc := s.pc + 2 }

/-- O45. BIT b,r. Rule R220. BIT of each bit of each register and of (HL): Z is set iff the bit is 0, N cleared,
H set, C kept, the operand and everything else unchanged, PC two further. -/
def Obligations.BitTestWritesOnlyFlags : Prop :=
  ∀ (n : BitVec 3) (x : Loc8) (s : State),
  (Instr.bitBR n x).opcodeBytes = [0xCB, BitVec.ofNat 8 (0x40 + 8 * n.toNat + x.field)] ∧
  (Instr.bitBR n x).length = 2 ∧
  exec (.bitBR n x) s = .next
    { s with
      f := { z := decide ((s.readLoc x).toNat / 2 ^ n.toNat % 2 = 0), n := false, h := true, c := s.f.c }
      pc := s.pc + 2 }

/-- O46. RES b,r and SET b,r. Rules R221, R222. RES clears and SET sets bit b of each register and of (HL), the
other bits kept; no flag is written; PC two further, nothing else changed. -/
def Obligations.ResSetWriteOneBitAndNoFlag : Prop :=
  ∀ (n : BitVec 3) (x : Loc8) (s : State),
  (Instr.resBR n x).opcodeBytes = [0xCB, BitVec.ofNat 8 (0x80 + 8 * n.toNat + x.field)] ∧
  (Instr.setBR n x).opcodeBytes = [0xCB, BitVec.ofNat 8 (0xC0 + 8 * n.toNat + x.field)] ∧
  (Instr.resBR n x).length = 2 ∧ (Instr.setBR n x).length = 2 ∧
  let v := (s.readLoc x).toNat
  let weight := 2 ^ n.toNat
  exec (.resBR n x) s = .next
    { s.writeLoc x (BitVec.ofNat 8 (v - v / weight % 2 * weight)) with pc := s.pc + 2 } ∧
  exec (.setBR n x) s = .next
    { s.writeLoc x (BitVec.ofNat 8 (v + (1 - v / weight % 2) * weight)) with pc := s.pc + 2 }

/-- O47. JP a16, JP cc,a16 and JP HL. Rules R240, R241, R242, R243. JP goes to the little-endian word after the
opcode; JP cc does so if its condition holds on the flags and goes three bytes on otherwise; JP HL goes to HL;
nothing but PC changes. NZ is Z clear, Z is Z set, NC is C clear, C is C set. -/
def Obligations.JumpsGoToTheTarget : Prop :=
  (∀ f : Flags, condHolds .nz f = decide (f.z = false) ∧ condHolds .z f = decide (f.z = true) ∧
      condHolds .nc f = decide (f.c = false) ∧ condHolds .c f = decide (f.c = true)) ∧
  Instr.jpA16.opcodeBytes = [0xC3] ∧ Instr.jpHl.opcodeBytes = [0xE9] ∧
  (∀ cc : Cond, (Instr.jpOf cc).opcodeBytes = [BitVec.ofNat 8 (0xC2 + 8 * cc.field)]) ∧
  Instr.jpA16.length = 3 ∧ Instr.jpHl.length = 1 ∧ (∀ cc : Cond, (Instr.jpOf cc).length = 3) ∧
  (∀ s : State, exec .jpA16 s = .next { s with pc := operandWord s }) ∧
  (∀ (cc : Cond) (s : State), exec (.jpOf cc) s = .next
      { s with pc := if condHolds cc s.f = true then operandWord s else s.pc + 3 }) ∧
  (∀ s : State, exec .jpHl s = .next { s with pc := concatBytes s.h s.l })

/-- O48. JR e8 and JR cc,e8. Rules R244, R245. JR goes to PC plus 2 plus the signed displacement modulo 65536;
JR cc does so if its condition holds and goes two bytes on otherwise; nothing but PC changes. -/
def Obligations.RelativeJumpsAddTheDisplacement : Prop :=
  Instr.jrE8.opcodeBytes = [0x18] ∧ Instr.jrE8.length = 2 ∧
  (∀ cc : Cond, (Instr.jrOf cc).opcodeBytes = [BitVec.ofNat 8 (0x20 + 8 * cc.field)] ∧
      (Instr.jrOf cc).length = 2) ∧
  ∀ s : State,
    let target := BitVec.ofInt 16 ((s.pc.toNat : Int) + 2 + (s.read (s.pc + 1)).toInt)
    exec .jrE8 s = .next { s with pc := target } ∧
    ∀ cc : Cond, exec (.jrOf cc) s = .next
      { s with pc := if condHolds cc s.f = true then target else s.pc + 2 }

/-- O49. A JR assembled for a target in reach goes to it. Rests on 30_encoding.md section 7; 44_control.md. For
every address and every target whose distance from the address plus 2 is a signed byte, with the operand the
assembler convention gives (target minus pc plus 2) after the opcode: JR goes to the target, and so does JR cc
if its condition holds; nothing but PC changes. -/
def Obligations.JrToATargetInReachGoesThere : Prop :=
  ∀ (s : State) (target : Word), jrReaches s.pc target = true → s.read (s.pc + 1) = jrOperand s.pc target →
  exec .jrE8 s = .next { s with pc := target } ∧
  ∀ cc : Cond, condHolds cc s.f = true → exec (.jrOf cc) s = .next { s with pc := target }

/-- O50. CALL a16 and CALL cc,a16. Rules R246, R247. CALL pushes PC plus 3 (high byte at SP-1, low byte at SP-2,
SP 2 less) and goes to the word after the opcode, read before the push; CALL cc does so if its condition holds,
and otherwise only goes three bytes on, SP and memory unchanged. -/
def Obligations.CallsPushTheReturnAddress : Prop :=
  Instr.callA16.opcodeBytes = [0xCD] ∧ Instr.callA16.length = 3 ∧
  (∀ cc : Cond, (Instr.callOf cc).opcodeBytes = [BitVec.ofNat 8 (0xC4 + 8 * cc.field)] ∧
      (Instr.callOf cc).length = 3) ∧
  (∀ s : State, exec .callA16 s = .next { afterPush s (s.pc + 3) with pc := operandWord s }) ∧
  (∀ (cc : Cond) (s : State), condHolds cc s.f = true →
      exec (.callOf cc) s = .next { afterPush s (s.pc + 3) with pc := operandWord s }) ∧
  (∀ (cc : Cond) (s : State), condHolds cc s.f = false →
      exec (.callOf cc) s = .next { s with pc := s.pc + 3 })

/-- O51. RET, RET cc and RETI. Rules R248, R249, R250. RET goes to the little-endian word at SP, SP 2 more; RET
cc does so if its condition holds and otherwise goes one byte on, SP unchanged; RETI returns and sets ime to 1,
ei unchanged; nothing else changes. -/
def Obligations.ReturnsPopThePc : Prop :=
  Instr.ret.opcodeBytes = [0xC9] ∧ Instr.reti.opcodeBytes = [0xD9] ∧
  (∀ cc : Cond, (Instr.retOf cc).opcodeBytes = [BitVec.ofNat 8 (0xC0 + 8 * cc.field)] ∧
      (Instr.retOf cc).length = 1) ∧
  Instr.ret.length = 1 ∧ Instr.reti.length = 1 ∧
  ∀ s : State,
    let target := concatBytes (s.read (s.sp + 1)) (s.read s.sp)
    exec .ret s = .next { s with pc := target, sp := s.sp + 2 } ∧
    exec .reti s = .next { s with pc := target, sp := s.sp + 2, ime := 1 } ∧
    ∀ cc : Cond, exec (.retOf cc) s = .next
      (if condHolds cc s.f = true then { s with pc := target, sp := s.sp + 2 }
       else { s with pc := s.pc + 1 })

/-- O52. RST t. Rule R251. Each RST pushes PC plus 1 and goes to its target, 8 times the tgt field; nothing else
changes. -/
def Obligations.RestartCallsTheFixedTarget : Prop :=
  ∀ (tgt : Fin 8) (s : State),
  (Instr.rstOf tgt).opcodeBytes = [BitVec.ofNat 8 (0xC7 + 8 * tgt.val)] ∧ (Instr.rstOf tgt).length = 1 ∧
  exec (.rstOf tgt) s = .next { afterPush s (s.pc + 1) with pc := BitVec.ofNat 16 (8 * tgt.val) }

/-- O53. push16, pop16, PUSH rr and POP rr. Rules R252, R253, R254, R255. push16 lowers SP by 2 (modulo 65536)
and stores the high byte at SP-1 and the low byte at SP-2; pop16 returns the little-endian word at SP and raises
SP by 2. PUSH of BC, DE, HL and AF pushes the pair; POP writes the popped word to the pair, for AF with the low
nibble of F dropped; PC one further, nothing else changed. -/
def Obligations.PushAndPopMoveThePair : Prop :=
  (∀ (s : State) (v : Word), s.push16 v = afterPush s v) ∧
  (∀ s : State, s.stackTop = concatBytes (s.read (s.sp + 1)) (s.read s.sp) ∧
      s.dropStack = { s with sp := s.sp + 2 }) ∧
  (∀ p : StkPair, (Instr.pushOf p).opcodeBytes = [BitVec.ofNat 8 (0xC5 + 16 * p.field)] ∧
      (Instr.popOf p).opcodeBytes = [BitVec.ofNat 8 (0xC1 + 16 * p.field)] ∧
      (Instr.pushOf p).length = 1 ∧ (Instr.popOf p).length = 1) ∧
  (∀ (p : StkPair) (s : State), exec (.pushOf p) s = .next
      { afterPush s (s.stkPair p) with pc := s.pc + 1 }) ∧
  (∀ (p : StkPair) (s : State), exec (.popOf p) s = .next
      { s.setStkPair p (concatBytes (s.read (s.sp + 1)) (s.read s.sp)) with
        sp := s.sp + 2
        pc := s.pc + 1 })

/-- O54. PUSH then POP of a pair restores the pair and SP. Rests on 44_control.md section 4; 10_state.md section
2. From every state with a canonical memory, for every pair: PUSH rr then POP rr leaves the pair and SP as they
were, with the byte at SP-1 the high byte and the byte at SP-2 the low byte of the pair. -/
def Obligations.PushThenPopRestoresPairAndSp : Prop :=
  ∀ (p : StkPair) (s : State), Inv s → ∃ t u,
  exec (.pushOf p) s = .next t ∧ exec (.popOf p) t = .next u ∧
  u.stkPair p = s.stkPair p ∧ u.sp = s.sp ∧
  u.read (s.sp - 1) = highByte (s.stkPair p) ∧ u.read (s.sp - 2) = lowByte (s.stkPair p)

/-- O55. LD r,r', LD r,(HL), LD (HL),r, LD r,n8 and LD (HL),n8. Rules R270, R271, R272, R273, R274. Each moves
its one byte unchanged: register to register, memory at HL to register (read with the old HL), register to
memory at HL, the immediate to a register or to memory at HL; PC moves past the instruction, no flag is written,
nothing else changes. -/
def Obligations.RegisterLoadsMoveOneByte : Prop :=
  (∀ r r' : Reg8, (Instr.ldOf r r').opcodeBytes
      = [BitVec.ofNat 8 (0x40 + 8 * reg8Number r + reg8Number r')] ∧ (Instr.ldOf r r').length = 1) ∧
  (∀ r : Reg8, (Instr.ldIndHlOf r).opcodeBytes = [BitVec.ofNat 8 (0x46 + 8 * reg8Number r)] ∧
      (Instr.stIndHlOf r).opcodeBytes = [BitVec.ofNat 8 (0x70 + reg8Number r)] ∧
      (Instr.ldN8Of r).opcodeBytes = [BitVec.ofNat 8 (0x06 + 8 * reg8Number r)] ∧
      (Instr.ldIndHlOf r).length = 1 ∧ (Instr.stIndHlOf r).length = 1 ∧ (Instr.ldN8Of r).length = 2) ∧
  Instr.ldIndHlN8.opcodeBytes = [0x36] ∧ Instr.ldIndHlN8.length = 2 ∧
  (∀ (r r' : Reg8) (s : State), exec (.ldOf r r') s = .next
      { s.setReg r (s.reg r') with pc := s.pc + 1 }) ∧
  (∀ (r : Reg8) (s : State), exec (.ldIndHlOf r) s = .next
      { s.setReg r (s.read (concatBytes s.h s.l)) with pc := s.pc + 1 }) ∧
  (∀ (r : Reg8) (s : State), exec (.stIndHlOf r) s = .next
      { s.write (concatBytes s.h s.l) (s.reg r) with pc := s.pc + 1 }) ∧
  (∀ (r : Reg8) (s : State), exec (.ldN8Of r) s = .next
      { s.setReg r (s.read (s.pc + 1)) with pc := s.pc + 2 }) ∧
  (∀ s : State, exec .ldIndHlN8 s = .next
      { s.write (concatBytes s.h s.l) (s.read (s.pc + 1)) with pc := s.pc + 2 })

/-- O56. LD (BC),A, LD (DE),A, LD (HL+),A, LD (HL-),A and the loads back. Rules R275, R276, R277, R278, R279,
R280. A is stored at, or loaded from, the address in BC, DE or the old HL; the plus and minus forms then change
HL by 1 modulo 65536, BC and DE are not modified; PC one further, no flag is written, nothing else changes. -/
def Obligations.IndirectAccumulatorLoadsStepHl : Prop :=
  (∀ m : MemMode, (Instr.stMemOf m).opcodeBytes = [BitVec.ofNat 8 (0x02 + 16 * m.field)] ∧
      (Instr.ldMemOf m).opcodeBytes = [BitVec.ofNat 8 (0x0A + 16 * m.field)] ∧
      (Instr.stMemOf m).length = 1 ∧ (Instr.ldMemOf m).length = 1) ∧
  ∀ s : State,
    let hl := concatBytes s.h s.l
    exec (.stMemOf .bc) s = .next { s.write (concatBytes s.b s.c) s.a with pc := s.pc + 1 } ∧
    exec (.stMemOf .de) s = .next { s.write (concatBytes s.d s.e) s.a with pc := s.pc + 1 } ∧
    exec (.stMemOf .hli) s = .next
      { s.write hl s.a with h := highByte (hl + 1), l := lowByte (hl + 1), pc := s.pc + 1 } ∧
    exec (.stMemOf .hld) s = .next
      { s.write hl s.a with h := highByte (hl - 1), l := lowByte (hl - 1), pc := s.pc + 1 } ∧
    exec (.ldMemOf .bc) s = .next { s with a := s.read (concatBytes s.b s.c), pc := s.pc + 1 } ∧
    exec (.ldMemOf .de) s = .next { s with a := s.read (concatBytes s.d s.e), pc := s.pc + 1 } ∧
    exec (.ldMemOf .hli) s = .next
      { s with a := s.read hl, h := highByte (hl + 1), l := lowByte (hl + 1), pc := s.pc + 1 } ∧
    exec (.ldMemOf .hld) s = .next
      { s with a := s.read hl, h := highByte (hl - 1), l := lowByte (hl - 1), pc := s.pc + 1 }

/-- O57. LD (a16),A, LDH (a8),A, LD (C),A and the loads back. Rules R281, R282, R283, R284, R285, R286. A is
stored at, or loaded from, the address a16, 0xFF00 plus the byte after the opcode, or 0xFF00 plus C; PC moves
past the instruction (3, 2 and 1 bytes), no flag is written, nothing else changes. -/
def Obligations.AbsoluteAndHighPageLoadsMoveA : Prop :=
  Instr.ldIndA16A.opcodeBytes = [0xEA] ∧ Instr.ldAIndA16.opcodeBytes = [0xFA] ∧
  Instr.ldhIndA8A.opcodeBytes = [0xE0] ∧ Instr.ldhAIndA8.opcodeBytes = [0xF0] ∧
  Instr.ldIndCA.opcodeBytes = [0xE2] ∧ Instr.ldAIndC.opcodeBytes = [0xF2] ∧
  Instr.ldIndA16A.length = 3 ∧ Instr.ldAIndA16.length = 3 ∧ Instr.ldhIndA8A.length = 2 ∧
  Instr.ldhAIndA8.length = 2 ∧ Instr.ldIndCA.length = 1 ∧ Instr.ldAIndC.length = 1 ∧
  ∀ s : State,
    let page := BitVec.ofNat 16 (0xFF00 + (s.read (s.pc + 1)).toNat)
    let pageC := BitVec.ofNat 16 (0xFF00 + s.c.toNat)
    exec .ldIndA16A s = .next { s.write (operandWord s) s.a with pc := s.pc + 3 } ∧
    exec .ldAIndA16 s = .next { s with a := s.read (operandWord s), pc := s.pc + 3 } ∧
    exec .ldhIndA8A s = .next { s.write page s.a with pc := s.pc + 2 } ∧
    exec .ldhAIndA8 s = .next { s with a := s.read page, pc := s.pc + 2 } ∧
    exec .ldIndCA s = .next { s.write pageC s.a with pc := s.pc + 1 } ∧
    exec .ldAIndC s = .next { s with a := s.read pageC, pc := s.pc + 1 }

/-- O58. LD rr,n16, LD (a16),SP and LD SP,HL. Rules R287, R288, R289. LD rr,n16 loads BC, DE, HL or SP with the
little-endian word after the opcode; LD (a16),SP stores the low byte of SP at a16 and the high byte at a16 plus
1 modulo 65536; LD SP,HL copies HL; PC moves past the instruction (3, 3 and 1 bytes), no flag is written,
nothing else changes. -/
def Obligations.WordLoadsMoveSixteenBits : Prop :=
  (∀ p : Pair, (Instr.ldN16Of p).opcodeBytes = [BitVec.ofNat 8 (0x01 + 16 * p.field)] ∧
      (Instr.ldN16Of p).length = 3) ∧
  Instr.ldIndA16Sp.opcodeBytes = [0x08] ∧ Instr.ldSpHl.opcodeBytes = [0xF9] ∧
  Instr.ldIndA16Sp.length = 3 ∧ Instr.ldSpHl.length = 1 ∧
  ∀ s : State,
    exec (.ldN16Of .bc) s = .next
      { s with b := s.read (s.pc + 2), c := s.read (s.pc + 1), pc := s.pc + 3 } ∧
    exec (.ldN16Of .de) s = .next
      { s with d := s.read (s.pc + 2), e := s.read (s.pc + 1), pc := s.pc + 3 } ∧
    exec (.ldN16Of .hl) s = .next
      { s with h := s.read (s.pc + 2), l := s.read (s.pc + 1), pc := s.pc + 3 } ∧
    exec (.ldN16Of .sp) s = .next { s with sp := operandWord s, pc := s.pc + 3 } ∧
    exec .ldIndA16Sp s = .next
      { (s.write (operandWord s) (lowByte s.sp)).write (operandWord s + 1) (highByte s.sp) with
        pc := s.pc + 3 } ∧
    exec .ldSpHl s = .next { s with sp := concatBytes s.h s.l, pc := s.pc + 1 }

/-- O59. NOP, HALT, STOP and DI. Rules R340, R341, R342, R343. NOP only advances PC by 1. With HALT_MODE
terminal HALT sets the status Halted and STOP sets it Stopped; with HALT_MODE nop neither changes it; in both
modes PC moves 1 past HALT and 2 past STOP, whatever the second byte of STOP. DI sets ime and ei to 0 and
advances PC by 1. Nothing else changes. -/
def Obligations.NopHaltStopDiActAsStated : Prop :=
  Instr.nop.opcodeBytes = [0x00] ∧ Instr.halt.opcodeBytes = [0x76] ∧ Instr.stop.opcodeBytes = [0x10] ∧
  Instr.di.opcodeBytes = [0xF3] ∧ Instr.nop.length = 1 ∧ Instr.halt.length = 1 ∧ Instr.stop.length = 2 ∧
  Instr.di.length = 1 ∧
  (∀ s : State, exec .nop s = .next { s with pc := s.pc + 1 }) ∧
  (∀ s : State, s.haltMode = .terminal →
      exec .halt s = .next { s with status := .halted, pc := s.pc + 1 } ∧
      exec .stop s = .next { s with status := .stopped, pc := s.pc + 2 }) ∧
  (∀ s : State, s.haltMode = .nop →
      exec .halt s = .next { s with pc := s.pc + 1 } ∧ exec .stop s = .next { s with pc := s.pc + 2 }) ∧
  (∀ s : State, exec .di s = .next { s with ime := 0, ei := 0, pc := s.pc + 1 })

/-- O60. The prefix 0xCB runs the CB table entry of the next byte. Rests on 30_encoding.md sections 1 and 5; log
entry 4. The row of the prefix means the instruction of the CB-prefixed table at the byte after it, for all 256
bytes, and completes in every state. That the row has a constructor of its own is the model's choice (log entry
4). -/
def Obligations.PrefixDispatchesThroughTheCbTable : Prop :=
  (∀ s : State, exec .prefixCb s = exec (.cbOf (decodeCb (s.read (s.pc + 1)))) s) ∧
  (∀ s : State, decodeByte (s.read (s.pc + 1)) true = some (.cbOf (decodeCb (s.read (s.pc + 1))))) ∧
  (∀ s : State, ∃ t, exec .prefixCb s = .next t)
end

