-- ==== Sys2Proof/Laws/State.lean ====
section
/-! SUPPORT. One lemma for each field after each update of a state, so that no proof unfolds a record update. -/

namespace Sys2Proof.Machine

/-! ## `setReg` -/

@[simp] theorem setReg_f (s : State) (r : Reg8) (v : Byte) : (s.setReg r v).f = s.f := by cases r <;> rfl
@[simp] theorem setReg_sp (s : State) (r : Reg8) (v : Byte) : (s.setReg r v).sp = s.sp := by cases r <;> rfl
@[simp] theorem setReg_pc (s : State) (r : Reg8) (v : Byte) : (s.setReg r v).pc = s.pc := by cases r <;> rfl
@[simp] theorem setReg_mem (s : State) (r : Reg8) (v : Byte) : (s.setReg r v).mem = s.mem := by cases r <;> rfl
@[simp] theorem setReg_ime (s : State) (r : Reg8) (v : Byte) : (s.setReg r v).ime = s.ime := by cases r <;> rfl
@[simp] theorem setReg_ie (s : State) (r : Reg8) (v : Byte) : (s.setReg r v).ie = s.ie := by cases r <;> rfl
@[simp] theorem setReg_ei (s : State) (r : Reg8) (v : Byte) : (s.setReg r v).ei = s.ei := by cases r <;> rfl
@[simp] theorem setReg_status (s : State) (r : Reg8) (v : Byte) : (s.setReg r v).status = s.status := by cases r <;> rfl
@[simp] theorem setReg_haltMode (s : State) (r : Reg8) (v : Byte) : (s.setReg r v).haltMode = s.haltMode := by cases r <;> rfl
@[simp] theorem setReg_a_a (s : State) (v : Byte) : (s.setReg .a v).a = v := rfl
@[simp] theorem setReg_a_b (s : State) (v : Byte) : (s.setReg .a v).b = s.b := rfl
@[simp] theorem setReg_a_c (s : State) (v : Byte) : (s.setReg .a v).c = s.c := rfl
@[simp] theorem setReg_a_d (s : State) (v : Byte) : (s.setReg .a v).d = s.d := rfl
@[simp] theorem setReg_a_e (s : State) (v : Byte) : (s.setReg .a v).e = s.e := rfl
@[simp] theorem setReg_a_h (s : State) (v : Byte) : (s.setReg .a v).h = s.h := rfl
@[simp] theorem setReg_a_l (s : State) (v : Byte) : (s.setReg .a v).l = s.l := rfl
@[simp] theorem setReg_b_a (s : State) (v : Byte) : (s.setReg .b v).a = s.a := rfl
@[simp] theorem setReg_b_b (s : State) (v : Byte) : (s.setReg .b v).b = v := rfl
@[simp] theorem setReg_b_c (s : State) (v : Byte) : (s.setReg .b v).c = s.c := rfl
@[simp] theorem setReg_b_d (s : State) (v : Byte) : (s.setReg .b v).d = s.d := rfl
@[simp] theorem setReg_b_e (s : State) (v : Byte) : (s.setReg .b v).e = s.e := rfl
@[simp] theorem setReg_b_h (s : State) (v : Byte) : (s.setReg .b v).h = s.h := rfl
@[simp] theorem setReg_b_l (s : State) (v : Byte) : (s.setReg .b v).l = s.l := rfl
@[simp] theorem setReg_c_a (s : State) (v : Byte) : (s.setReg .c v).a = s.a := rfl
@[simp] theorem setReg_c_b (s : State) (v : Byte) : (s.setReg .c v).b = s.b := rfl
@[simp] theorem setReg_c_c (s : State) (v : Byte) : (s.setReg .c v).c = v := rfl
@[simp] theorem setReg_c_d (s : State) (v : Byte) : (s.setReg .c v).d = s.d := rfl
@[simp] theorem setReg_c_e (s : State) (v : Byte) : (s.setReg .c v).e = s.e := rfl
@[simp] theorem setReg_c_h (s : State) (v : Byte) : (s.setReg .c v).h = s.h := rfl
@[simp] theorem setReg_c_l (s : State) (v : Byte) : (s.setReg .c v).l = s.l := rfl
@[simp] theorem setReg_d_a (s : State) (v : Byte) : (s.setReg .d v).a = s.a := rfl
@[simp] theorem setReg_d_b (s : State) (v : Byte) : (s.setReg .d v).b = s.b := rfl
@[simp] theorem setReg_d_c (s : State) (v : Byte) : (s.setReg .d v).c = s.c := rfl
@[simp] theorem setReg_d_d (s : State) (v : Byte) : (s.setReg .d v).d = v := rfl
@[simp] theorem setReg_d_e (s : State) (v : Byte) : (s.setReg .d v).e = s.e := rfl
@[simp] theorem setReg_d_h (s : State) (v : Byte) : (s.setReg .d v).h = s.h := rfl
@[simp] theorem setReg_d_l (s : State) (v : Byte) : (s.setReg .d v).l = s.l := rfl
@[simp] theorem setReg_e_a (s : State) (v : Byte) : (s.setReg .e v).a = s.a := rfl
@[simp] theorem setReg_e_b (s : State) (v : Byte) : (s.setReg .e v).b = s.b := rfl
@[simp] theorem setReg_e_c (s : State) (v : Byte) : (s.setReg .e v).c = s.c := rfl
@[simp] theorem setReg_e_d (s : State) (v : Byte) : (s.setReg .e v).d = s.d := rfl
@[simp] theorem setReg_e_e (s : State) (v : Byte) : (s.setReg .e v).e = v := rfl
@[simp] theorem setReg_e_h (s : State) (v : Byte) : (s.setReg .e v).h = s.h := rfl
@[simp] theorem setReg_e_l (s : State) (v : Byte) : (s.setReg .e v).l = s.l := rfl
@[simp] theorem setReg_h_a (s : State) (v : Byte) : (s.setReg .h v).a = s.a := rfl
@[simp] theorem setReg_h_b (s : State) (v : Byte) : (s.setReg .h v).b = s.b := rfl
@[simp] theorem setReg_h_c (s : State) (v : Byte) : (s.setReg .h v).c = s.c := rfl
@[simp] theorem setReg_h_d (s : State) (v : Byte) : (s.setReg .h v).d = s.d := rfl
@[simp] theorem setReg_h_e (s : State) (v : Byte) : (s.setReg .h v).e = s.e := rfl
@[simp] theorem setReg_h_h (s : State) (v : Byte) : (s.setReg .h v).h = v := rfl
@[simp] theorem setReg_h_l (s : State) (v : Byte) : (s.setReg .h v).l = s.l := rfl
@[simp] theorem setReg_l_a (s : State) (v : Byte) : (s.setReg .l v).a = s.a := rfl
@[simp] theorem setReg_l_b (s : State) (v : Byte) : (s.setReg .l v).b = s.b := rfl
@[simp] theorem setReg_l_c (s : State) (v : Byte) : (s.setReg .l v).c = s.c := rfl
@[simp] theorem setReg_l_d (s : State) (v : Byte) : (s.setReg .l v).d = s.d := rfl
@[simp] theorem setReg_l_e (s : State) (v : Byte) : (s.setReg .l v).e = s.e := rfl
@[simp] theorem setReg_l_h (s : State) (v : Byte) : (s.setReg .l v).h = s.h := rfl
@[simp] theorem setReg_l_l (s : State) (v : Byte) : (s.setReg .l v).l = v := rfl

@[simp] theorem reg_setReg (s : State) (r r' : Reg8) (v : Byte) :
    (s.setReg r v).reg r' = if r = r' then v else s.reg r' := by
  cases r <;> cases r' <;> rfl

@[simp] theorem reg_a (s : State) : s.reg .a = s.a := rfl
@[simp] theorem reg_b (s : State) : s.reg .b = s.b := rfl
@[simp] theorem reg_c (s : State) : s.reg .c = s.c := rfl
@[simp] theorem reg_d (s : State) : s.reg .d = s.d := rfl
@[simp] theorem reg_e (s : State) : s.reg .e = s.e := rfl
@[simp] theorem reg_h (s : State) : s.reg .h = s.h := rfl
@[simp] theorem reg_l (s : State) : s.reg .l = s.l := rfl

/-! ## `setFlags` -/

@[simp] theorem setFlags_a (s : State) (v : Flags) : (s.setFlags v).a = s.a := rfl
@[simp] theorem setFlags_b (s : State) (v : Flags) : (s.setFlags v).b = s.b := rfl
@[simp] theorem setFlags_c (s : State) (v : Flags) : (s.setFlags v).c = s.c := rfl
@[simp] theorem setFlags_d (s : State) (v : Flags) : (s.setFlags v).d = s.d := rfl
@[simp] theorem setFlags_e (s : State) (v : Flags) : (s.setFlags v).e = s.e := rfl
@[simp] theorem setFlags_h (s : State) (v : Flags) : (s.setFlags v).h = s.h := rfl
@[simp] theorem setFlags_l (s : State) (v : Flags) : (s.setFlags v).l = s.l := rfl
@[simp] theorem setFlags_f (s : State) (v : Flags) : (s.setFlags v).f = v := rfl
@[simp] theorem setFlags_sp (s : State) (v : Flags) : (s.setFlags v).sp = s.sp := rfl
@[simp] theorem setFlags_pc (s : State) (v : Flags) : (s.setFlags v).pc = s.pc := rfl
@[simp] theorem setFlags_mem (s : State) (v : Flags) : (s.setFlags v).mem = s.mem := rfl
@[simp] theorem setFlags_ime (s : State) (v : Flags) : (s.setFlags v).ime = s.ime := rfl
@[simp] theorem setFlags_ie (s : State) (v : Flags) : (s.setFlags v).ie = s.ie := rfl
@[simp] theorem setFlags_ei (s : State) (v : Flags) : (s.setFlags v).ei = s.ei := rfl
@[simp] theorem setFlags_status (s : State) (v : Flags) : (s.setFlags v).status = s.status := rfl
@[simp] theorem setFlags_haltMode (s : State) (v : Flags) : (s.setFlags v).haltMode = s.haltMode := rfl
@[simp] theorem reg_setFlags (s : State) (v : Flags) (r : Reg8) : (s.setFlags v).reg r = s.reg r := by cases r <;> rfl

/-! ## `setSp` -/

@[simp] theorem setSp_a (s : State) (v : Word) : (s.setSp v).a = s.a := rfl
@[simp] theorem setSp_b (s : State) (v : Word) : (s.setSp v).b = s.b := rfl
@[simp] theorem setSp_c (s : State) (v : Word) : (s.setSp v).c = s.c := rfl
@[simp] theorem setSp_d (s : State) (v : Word) : (s.setSp v).d = s.d := rfl
@[simp] theorem setSp_e (s : State) (v : Word) : (s.setSp v).e = s.e := rfl
@[simp] theorem setSp_h (s : State) (v : Word) : (s.setSp v).h = s.h := rfl
@[simp] theorem setSp_l (s : State) (v : Word) : (s.setSp v).l = s.l := rfl
@[simp] theorem setSp_f (s : State) (v : Word) : (s.setSp v).f = s.f := rfl
@[simp] theorem setSp_sp (s : State) (v : Word) : (s.setSp v).sp = v := rfl
@[simp] theorem setSp_pc (s : State) (v : Word) : (s.setSp v).pc = s.pc := rfl
@[simp] theorem setSp_mem (s : State) (v : Word) : (s.setSp v).mem = s.mem := rfl
@[simp] theorem setSp_ime (s : State) (v : Word) : (s.setSp v).ime = s.ime := rfl
@[simp] theorem setSp_ie (s : State) (v : Word) : (s.setSp v).ie = s.ie := rfl
@[simp] theorem setSp_ei (s : State) (v : Word) : (s.setSp v).ei = s.ei := rfl
@[simp] theorem setSp_status (s : State) (v : Word) : (s.setSp v).status = s.status := rfl
@[simp] theorem setSp_haltMode (s : State) (v : Word) : (s.setSp v).haltMode = s.haltMode := rfl
@[simp] theorem reg_setSp (s : State) (v : Word) (r : Reg8) : (s.setSp v).reg r = s.reg r := by cases r <;> rfl

/-! ## `setPc` -/

@[simp] theorem setPc_a (s : State) (v : Word) : (s.setPc v).a = s.a := rfl
@[simp] theorem setPc_b (s : State) (v : Word) : (s.setPc v).b = s.b := rfl
@[simp] theorem setPc_c (s : State) (v : Word) : (s.setPc v).c = s.c := rfl
@[simp] theorem setPc_d (s : State) (v : Word) : (s.setPc v).d = s.d := rfl
@[simp] theorem setPc_e (s : State) (v : Word) : (s.setPc v).e = s.e := rfl
@[simp] theorem setPc_h (s : State) (v : Word) : (s.setPc v).h = s.h := rfl
@[simp] theorem setPc_l (s : State) (v : Word) : (s.setPc v).l = s.l := rfl
@[simp] theorem setPc_f (s : State) (v : Word) : (s.setPc v).f = s.f := rfl
@[simp] theorem setPc_sp (s : State) (v : Word) : (s.setPc v).sp = s.sp := rfl
@[simp] theorem setPc_pc (s : State) (v : Word) : (s.setPc v).pc = v := rfl
@[simp] theorem setPc_mem (s : State) (v : Word) : (s.setPc v).mem = s.mem := rfl
@[simp] theorem setPc_ime (s : State) (v : Word) : (s.setPc v).ime = s.ime := rfl
@[simp] theorem setPc_ie (s : State) (v : Word) : (s.setPc v).ie = s.ie := rfl
@[simp] theorem setPc_ei (s : State) (v : Word) : (s.setPc v).ei = s.ei := rfl
@[simp] theorem setPc_status (s : State) (v : Word) : (s.setPc v).status = s.status := rfl
@[simp] theorem setPc_haltMode (s : State) (v : Word) : (s.setPc v).haltMode = s.haltMode := rfl
@[simp] theorem reg_setPc (s : State) (v : Word) (r : Reg8) : (s.setPc v).reg r = s.reg r := by cases r <;> rfl

/-! ## `setIme` -/

@[simp] theorem setIme_a (s : State) (v : Byte) : (s.setIme v).a = s.a := rfl
@[simp] theorem setIme_b (s : State) (v : Byte) : (s.setIme v).b = s.b := rfl
@[simp] theorem setIme_c (s : State) (v : Byte) : (s.setIme v).c = s.c := rfl
@[simp] theorem setIme_d (s : State) (v : Byte) : (s.setIme v).d = s.d := rfl
@[simp] theorem setIme_e (s : State) (v : Byte) : (s.setIme v).e = s.e := rfl
@[simp] theorem setIme_h (s : State) (v : Byte) : (s.setIme v).h = s.h := rfl
@[simp] theorem setIme_l (s : State) (v : Byte) : (s.setIme v).l = s.l := rfl
@[simp] theorem setIme_f (s : State) (v : Byte) : (s.setIme v).f = s.f := rfl
@[simp] theorem setIme_sp (s : State) (v : Byte) : (s.setIme v).sp = s.sp := rfl
@[simp] theorem setIme_pc (s : State) (v : Byte) : (s.setIme v).pc = s.pc := rfl
@[simp] theorem setIme_mem (s : State) (v : Byte) : (s.setIme v).mem = s.mem := rfl
@[simp] theorem setIme_ime (s : State) (v : Byte) : (s.setIme v).ime = v := rfl
@[simp] theorem setIme_ie (s : State) (v : Byte) : (s.setIme v).ie = s.ie := rfl
@[simp] theorem setIme_ei (s : State) (v : Byte) : (s.setIme v).ei = s.ei := rfl
@[simp] theorem setIme_status (s : State) (v : Byte) : (s.setIme v).status = s.status := rfl
@[simp] theorem setIme_haltMode (s : State) (v : Byte) : (s.setIme v).haltMode = s.haltMode := rfl
@[simp] theorem reg_setIme (s : State) (v : Byte) (r : Reg8) : (s.setIme v).reg r = s.reg r := by cases r <;> rfl

/-! ## `setEi` -/

@[simp] theorem setEi_a (s : State) (v : Byte) : (s.setEi v).a = s.a := rfl
@[simp] theorem setEi_b (s : State) (v : Byte) : (s.setEi v).b = s.b := rfl
@[simp] theorem setEi_c (s : State) (v : Byte) : (s.setEi v).c = s.c := rfl
@[simp] theorem setEi_d (s : State) (v : Byte) : (s.setEi v).d = s.d := rfl
@[simp] theorem setEi_e (s : State) (v : Byte) : (s.setEi v).e = s.e := rfl
@[simp] theorem setEi_h (s : State) (v : Byte) : (s.setEi v).h = s.h := rfl
@[simp] theorem setEi_l (s : State) (v : Byte) : (s.setEi v).l = s.l := rfl
@[simp] theorem setEi_f (s : State) (v : Byte) : (s.setEi v).f = s.f := rfl
@[simp] theorem setEi_sp (s : State) (v : Byte) : (s.setEi v).sp = s.sp := rfl
@[simp] theorem setEi_pc (s : State) (v : Byte) : (s.setEi v).pc = s.pc := rfl
@[simp] theorem setEi_mem (s : State) (v : Byte) : (s.setEi v).mem = s.mem := rfl
@[simp] theorem setEi_ime (s : State) (v : Byte) : (s.setEi v).ime = s.ime := rfl
@[simp] theorem setEi_ie (s : State) (v : Byte) : (s.setEi v).ie = s.ie := rfl
@[simp] theorem setEi_ei (s : State) (v : Byte) : (s.setEi v).ei = v := rfl
@[simp] theorem setEi_status (s : State) (v : Byte) : (s.setEi v).status = s.status := rfl
@[simp] theorem setEi_haltMode (s : State) (v : Byte) : (s.setEi v).haltMode = s.haltMode := rfl
@[simp] theorem reg_setEi (s : State) (v : Byte) (r : Reg8) : (s.setEi v).reg r = s.reg r := by cases r <;> rfl

/-! ## `setStatus` -/

@[simp] theorem setStatus_a (s : State) (v : RunStatus) : (s.setStatus v).a = s.a := rfl
@[simp] theorem setStatus_b (s : State) (v : RunStatus) : (s.setStatus v).b = s.b := rfl
@[simp] theorem setStatus_c (s : State) (v : RunStatus) : (s.setStatus v).c = s.c := rfl
@[simp] theorem setStatus_d (s : State) (v : RunStatus) : (s.setStatus v).d = s.d := rfl
@[simp] theorem setStatus_e (s : State) (v : RunStatus) : (s.setStatus v).e = s.e := rfl
@[simp] theorem setStatus_h (s : State) (v : RunStatus) : (s.setStatus v).h = s.h := rfl
@[simp] theorem setStatus_l (s : State) (v : RunStatus) : (s.setStatus v).l = s.l := rfl
@[simp] theorem setStatus_f (s : State) (v : RunStatus) : (s.setStatus v).f = s.f := rfl
@[simp] theorem setStatus_sp (s : State) (v : RunStatus) : (s.setStatus v).sp = s.sp := rfl
@[simp] theorem setStatus_pc (s : State) (v : RunStatus) : (s.setStatus v).pc = s.pc := rfl
@[simp] theorem setStatus_mem (s : State) (v : RunStatus) : (s.setStatus v).mem = s.mem := rfl
@[simp] theorem setStatus_ime (s : State) (v : RunStatus) : (s.setStatus v).ime = s.ime := rfl
@[simp] theorem setStatus_ie (s : State) (v : RunStatus) : (s.setStatus v).ie = s.ie := rfl
@[simp] theorem setStatus_ei (s : State) (v : RunStatus) : (s.setStatus v).ei = s.ei := rfl
@[simp] theorem setStatus_status (s : State) (v : RunStatus) : (s.setStatus v).status = v := rfl
@[simp] theorem setStatus_haltMode (s : State) (v : RunStatus) : (s.setStatus v).haltMode = s.haltMode := rfl
@[simp] theorem reg_setStatus (s : State) (v : RunStatus) (r : Reg8) : (s.setStatus v).reg r = s.reg r := by cases r <;> rfl

/-! ## `advance` -/

@[simp] theorem advance_a (s : State) (n : Word) : (s.advance n).a = s.a := rfl
@[simp] theorem advance_b (s : State) (n : Word) : (s.advance n).b = s.b := rfl
@[simp] theorem advance_c (s : State) (n : Word) : (s.advance n).c = s.c := rfl
@[simp] theorem advance_d (s : State) (n : Word) : (s.advance n).d = s.d := rfl
@[simp] theorem advance_e (s : State) (n : Word) : (s.advance n).e = s.e := rfl
@[simp] theorem advance_h (s : State) (n : Word) : (s.advance n).h = s.h := rfl
@[simp] theorem advance_l (s : State) (n : Word) : (s.advance n).l = s.l := rfl
@[simp] theorem advance_f (s : State) (n : Word) : (s.advance n).f = s.f := rfl
@[simp] theorem advance_sp (s : State) (n : Word) : (s.advance n).sp = s.sp := rfl
@[simp] theorem advance_pc (s : State) (n : Word) : (s.advance n).pc = s.pc + n := rfl
@[simp] theorem advance_mem (s : State) (n : Word) : (s.advance n).mem = s.mem := rfl
@[simp] theorem advance_ime (s : State) (n : Word) : (s.advance n).ime = s.ime := rfl
@[simp] theorem advance_ie (s : State) (n : Word) : (s.advance n).ie = s.ie := rfl
@[simp] theorem advance_ei (s : State) (n : Word) : (s.advance n).ei = s.ei := rfl
@[simp] theorem advance_status (s : State) (n : Word) : (s.advance n).status = s.status := rfl
@[simp] theorem advance_haltMode (s : State) (n : Word) : (s.advance n).haltMode = s.haltMode := rfl
@[simp] theorem reg_advance (s : State) (n : Word) (r : Reg8) : (s.advance n).reg r = s.reg r := by cases r <;> rfl

/-! ## `write` -/

@[simp] theorem write_a (s : State) (addr : Word) (v : Byte) : (s.write addr v).a = s.a := rfl
@[simp] theorem write_b (s : State) (addr : Word) (v : Byte) : (s.write addr v).b = s.b := rfl
@[simp] theorem write_c (s : State) (addr : Word) (v : Byte) : (s.write addr v).c = s.c := rfl
@[simp] theorem write_d (s : State) (addr : Word) (v : Byte) : (s.write addr v).d = s.d := rfl
@[simp] theorem write_e (s : State) (addr : Word) (v : Byte) : (s.write addr v).e = s.e := rfl
@[simp] theorem write_h (s : State) (addr : Word) (v : Byte) : (s.write addr v).h = s.h := rfl
@[simp] theorem write_l (s : State) (addr : Word) (v : Byte) : (s.write addr v).l = s.l := rfl
@[simp] theorem write_f (s : State) (addr : Word) (v : Byte) : (s.write addr v).f = s.f := rfl
@[simp] theorem write_sp (s : State) (addr : Word) (v : Byte) : (s.write addr v).sp = s.sp := rfl
@[simp] theorem write_pc (s : State) (addr : Word) (v : Byte) : (s.write addr v).pc = s.pc := rfl
@[simp] theorem write_mem (s : State) (addr : Word) (v : Byte) : (s.write addr v).mem = s.mem.write addr.toNat v := rfl
@[simp] theorem write_ime (s : State) (addr : Word) (v : Byte) : (s.write addr v).ime = s.ime := rfl
@[simp] theorem write_ie (s : State) (addr : Word) (v : Byte) : (s.write addr v).ie = s.ie := rfl
@[simp] theorem write_ei (s : State) (addr : Word) (v : Byte) : (s.write addr v).ei = s.ei := rfl
@[simp] theorem write_status (s : State) (addr : Word) (v : Byte) : (s.write addr v).status = s.status := rfl
@[simp] theorem write_haltMode (s : State) (addr : Word) (v : Byte) : (s.write addr v).haltMode = s.haltMode := rfl
@[simp] theorem reg_write (s : State) (addr : Word) (v : Byte) (r : Reg8) : (s.write addr v).reg r = s.reg r := by cases r <;> rfl

/-! ## Reading memory after an update of something else -/

@[simp] theorem read_setReg (s : State) (r : Reg8) (v : Byte) (addr : Word) : (s.setReg r v).read addr = s.read addr := by
  simp [State.read]
@[simp] theorem read_setFlags (s : State) (v : Flags) (addr : Word) : (s.setFlags v).read addr = s.read addr := rfl
@[simp] theorem read_setSp (s : State) (v : Word) (addr : Word) : (s.setSp v).read addr = s.read addr := rfl
@[simp] theorem read_setPc (s : State) (v : Word) (addr : Word) : (s.setPc v).read addr = s.read addr := rfl
@[simp] theorem read_setIme (s : State) (v : Byte) (addr : Word) : (s.setIme v).read addr = s.read addr := rfl
@[simp] theorem read_setEi (s : State) (v : Byte) (addr : Word) : (s.setEi v).read addr = s.read addr := rfl
@[simp] theorem read_setStatus (s : State) (v : RunStatus) (addr : Word) : (s.setStatus v).read addr = s.read addr := rfl
@[simp] theorem read_advance (s : State) (n addr : Word) : (s.advance n).read addr = s.read addr := rfl

/-! ## Pair views -/

@[simp] theorem setPair_pc (s : State) (p : Pair) (v : Word) : (s.setPair p v).pc = s.pc := by cases p <;> rfl
@[simp] theorem setPair_mem (s : State) (p : Pair) (v : Word) : (s.setPair p v).mem = s.mem := by cases p <;> rfl
@[simp] theorem setPair_ime (s : State) (p : Pair) (v : Word) : (s.setPair p v).ime = s.ime := by cases p <;> rfl
@[simp] theorem setPair_ie (s : State) (p : Pair) (v : Word) : (s.setPair p v).ie = s.ie := by cases p <;> rfl
@[simp] theorem setPair_ei (s : State) (p : Pair) (v : Word) : (s.setPair p v).ei = s.ei := by cases p <;> rfl
@[simp] theorem setPair_status (s : State) (p : Pair) (v : Word) : (s.setPair p v).status = s.status := by cases p <;> rfl
@[simp] theorem setPair_haltMode (s : State) (p : Pair) (v : Word) : (s.setPair p v).haltMode = s.haltMode := by cases p <;> rfl
@[simp] theorem setPair_f (s : State) (p : Pair) (v : Word) : (s.setPair p v).f = s.f := by cases p <;> rfl
@[simp] theorem setPair_a (s : State) (p : Pair) (v : Word) : (s.setPair p v).a = s.a := by cases p <;> rfl
@[simp] theorem setStkPair_sp (s : State) (p : StkPair) (v : Word) : (s.setStkPair p v).sp = s.sp := by cases p <;> rfl
@[simp] theorem setStkPair_pc (s : State) (p : StkPair) (v : Word) : (s.setStkPair p v).pc = s.pc := by cases p <;> rfl
@[simp] theorem setStkPair_mem (s : State) (p : StkPair) (v : Word) : (s.setStkPair p v).mem = s.mem := by cases p <;> rfl
@[simp] theorem setStkPair_ime (s : State) (p : StkPair) (v : Word) : (s.setStkPair p v).ime = s.ime := by cases p <;> rfl
@[simp] theorem setStkPair_ie (s : State) (p : StkPair) (v : Word) : (s.setStkPair p v).ie = s.ie := by cases p <;> rfl
@[simp] theorem setStkPair_ei (s : State) (p : StkPair) (v : Word) : (s.setStkPair p v).ei = s.ei := by cases p <;> rfl
@[simp] theorem setStkPair_status (s : State) (p : StkPair) (v : Word) : (s.setStkPair p v).status = s.status := by cases p <;> rfl
@[simp] theorem setStkPair_haltMode (s : State) (p : StkPair) (v : Word) : (s.setStkPair p v).haltMode = s.haltMode := by cases p <;> rfl
@[simp] theorem read_setPair (s : State) (p : Pair) (v addr : Word) : (s.setPair p v).read addr = s.read addr := by
  cases p <;> rfl
@[simp] theorem read_setStkPair (s : State) (p : StkPair) (v addr : Word) : (s.setStkPair p v).read addr = s.read addr := by
  cases p <;> rfl

end Sys2Proof.Machine
end

