-- ==== Sys2Proof/Laws/Memory.lean ====
section
/-! SUPPORT. The laws of memory: reads after writes, and that every operation keeps the canonical form. -/

namespace Sys2Proof.Machine

/-! ## The canonical form -/

theorem wfFrom_cons {low k : Nat} {v : Byte} {m : Memory} :
    Memory.wfFrom low ((k, v) :: m) = true ↔
      low ≤ k ∧ k < 65536 ∧ v ≠ Memory.unlisted ∧ Memory.wfFrom (k + 1) m = true := by
  simp [Memory.wfFrom, and_assoc]

theorem wfFrom_weaken {low low' : Nat} {m : Memory} (hm : Memory.wfFrom low m = true)
    (hle : low' ≤ low) : Memory.wfFrom low' m = true := by
  cases m with
  | nil => rfl
  | cons cell m =>
    obtain ⟨k, v⟩ := cell
    rw [wfFrom_cons] at hm ⊢
    exact ⟨by omega, hm.2⟩

/-- Below the least listed address a memory reads as unlisted. -/
theorem read_below {low addr : Nat} {m : Memory} (hm : Memory.wfFrom low m = true) (hlt : addr < low) :
    Memory.read addr m = Memory.unlisted := by
  induction m generalizing low with
  | nil => rfl
  | cons cell m ih =>
    obtain ⟨k, v⟩ := cell
    rw [wfFrom_cons] at hm
    rw [Memory.read, if_neg (by omega)]
    exact ih hm.2.2.2 (by omega)

theorem wfFrom_consEntry {low k : Nat} {v : Byte} {m : Memory} (hm : Memory.wfFrom (k + 1) m = true)
    (hlow : low ≤ k) (hk : k < 65536) : Memory.wfFrom low (Memory.consEntry k v m) = true := by
  unfold Memory.consEntry
  split
  · exact wfFrom_weaken hm (by omega)
  · rename_i hv
    exact wfFrom_cons.mpr ⟨hlow, hk, hv, hm⟩

theorem read_consEntry {k addr : Nat} {v : Byte} {m : Memory} (hm : Memory.wfFrom (k + 1) m = true) :
    Memory.read addr (Memory.consEntry k v m) = if addr = k then v else Memory.read addr m := by
  unfold Memory.consEntry
  split
  · rename_i hv
    split
    · subst hv
      exact read_below hm (by omega)
    · rfl
  · rfl

theorem wfFrom_write {low addr : Nat} {v : Byte} {m : Memory} (hm : Memory.wfFrom low m = true)
    (hlow : low ≤ addr) (hlt : addr < 65536) : Memory.wfFrom low (Memory.write addr v m) = true := by
  induction m generalizing low with
  | nil => exact wfFrom_consEntry (by rfl) hlow hlt
  | cons cell m ih =>
    obtain ⟨k, w⟩ := cell
    rw [wfFrom_cons] at hm
    obtain ⟨hk, hk', hw, hm⟩ := hm
    unfold Memory.write
    split
    · exact wfFrom_consEntry (wfFrom_cons.mpr ⟨by omega, hk', hw, hm⟩) hlow hlt
    · split
      · rename_i heq
        subst heq
        exact wfFrom_consEntry hm hlow hlt
      · exact wfFrom_cons.mpr ⟨hk, hk', hw, ih hm (by omega)⟩

/-- A write keeps the canonical form. -/
theorem wf_write {m : Memory} (hm : m.wf = true) (addr : Word) (v : Byte) :
    Memory.wf (Memory.write addr.toNat v m) = true :=
  wfFrom_write hm (Nat.zero_le _) addr.isLt

/-- What a canonical memory reads as after a write. -/
theorem memory_read_write {low addr other : Nat} {v : Byte} {m : Memory}
    (hm : Memory.wfFrom low m = true) :
    Memory.read other (Memory.write addr v m) = if other = addr then v else Memory.read other m := by
  induction m generalizing low with
  | nil => exact read_consEntry (by rfl)
  | cons cell m ih =>
    obtain ⟨k, w⟩ := cell
    rw [wfFrom_cons] at hm
    obtain ⟨hk, hk', hw, hm⟩ := hm
    unfold Memory.write
    split
    · exact read_consEntry (wfFrom_cons.mpr ⟨by omega, hk', hw, hm⟩)
    · split
      · rename_i heq
        subst heq
        rw [read_consEntry hm]
        split <;> simp_all [Memory.read]
      · rw [Memory.read, Memory.read, ih hm]
        split
        · rename_i hne heq
          rw [if_neg (by omega)]
        · rfl

/-- Canonical memories that read alike are equal. -/
theorem wfFrom_ext {low : Nat} {m m' : Memory} (hm : Memory.wfFrom low m = true)
    (hm' : Memory.wfFrom low m' = true)
    (hread : ∀ addr, addr < 65536 → Memory.read addr m = Memory.read addr m') : m = m' := by
  induction m generalizing low m' with
  | nil =>
    cases m' with
    | nil => rfl
    | cons cell m' =>
      obtain ⟨k, v⟩ := cell
      rw [wfFrom_cons] at hm'
      have h := hread k hm'.2.1
      simp only [Memory.read, if_true] at h
      exact absurd h.symm hm'.2.2.1
  | cons cell m ih =>
    obtain ⟨k, v⟩ := cell
    have hm1 := wfFrom_cons.mp hm
    cases m' with
    | nil =>
      have h := hread k hm1.2.1
      simp only [Memory.read, if_true] at h
      exact absurd h hm1.2.2.1
    | cons cell' m' =>
      obtain ⟨k', v'⟩ := cell'
      have hm2 := wfFrom_cons.mp hm'
      have hk : k = k' := by
        rcases Nat.lt_trichotomy k k' with h | h | h
        · have hr := hread k hm1.2.1
          rw [read_below (wfFrom_cons.mpr ⟨Nat.le_refl k', hm2.2⟩) h, Memory.read, if_pos rfl] at hr
          exact absurd hr hm1.2.2.1
        · exact h
        · have hr := hread k' hm2.2.1
          rw [read_below (wfFrom_cons.mpr ⟨Nat.le_refl k, hm1.2⟩) h, Memory.read, if_pos rfl] at hr
          exact absurd hr.symm hm2.2.2.1
      subst hk
      have hv : v = v' := by
        have hr := hread k hm1.2.1
        rwa [Memory.read, Memory.read, if_pos rfl, if_pos rfl] at hr
      subst hv
      congr 1
      refine ih hm1.2.2.2 hm2.2.2.2 fun addr hlt => ?_
      by_cases heq : addr = k
      · subst heq
        rw [read_below hm1.2.2.2 (Nat.lt_succ_self _), read_below hm2.2.2.2 (Nat.lt_succ_self _)]
      · have hr := hread addr hlt
        rwa [Memory.read, Memory.read, if_neg heq, if_neg heq] at hr

/-! ## Reads and writes of a state -/

/-- What a state with a canonical memory reads as after a write. -/
theorem read_write {s : State} (hs : s.mem.wf = true) (addr other : Word) (v : Byte) :
    (s.write addr v).read other = if other = addr then v else s.read other := by
  unfold State.read
  rw [write_mem, memory_read_write hs]
  simp only [BitVec.toNat_inj]

theorem wf_write_mem {s : State} (hs : s.mem.wf = true) (addr : Word) (v : Byte) :
    (s.write addr v).mem.wf = true :=
  wf_write hs addr v

theorem wf_writeBytes {s : State} (hs : s.mem.wf = true) (addr : Word) (bytes : List Byte) :
    (s.writeBytes addr bytes).mem.wf = true := by
  induction bytes generalizing s addr with
  | nil => exact hs
  | cons v vs ih => exact ih (wf_write_mem hs addr v) (addr + 1)

theorem wf_writeRam {s : State} (hs : s.mem.wf = true) (ram : List (Word × Byte)) :
    (s.writeRam ram).mem.wf = true := by
  induction ram generalizing s with
  | nil => exact hs
  | cons cell ram ih => exact ih (wf_write_mem hs cell.1 cell.2)

/-! ## The memory of a launch -/

theorem wfFrom_ofInitBelow (initMem : Word → Byte) {n : Nat} {m : Memory} (hn : n ≤ 65536)
    (hm : Memory.wfFrom n m = true) : Memory.wf (Memory.ofInitBelow initMem n m) = true := by
  induction n generalizing m with
  | zero => exact hm
  | succ n ih => exact ih (by omega) (wfFrom_consEntry hm (Nat.le_refl n) (by omega))

theorem read_ofInitBelow (initMem : Word → Byte) {n addr : Nat} {m : Memory} (hn : n ≤ 65536)
    (hm : Memory.wfFrom n m = true) :
    Memory.read addr (Memory.ofInitBelow initMem n m)
      = if addr < n then initMem (BitVec.ofNat 16 addr) else Memory.read addr m := by
  induction n generalizing m with
  | zero => simp [Memory.ofInitBelow]
  | succ n ih =>
    rw [Memory.ofInitBelow, ih (by omega) (wfFrom_consEntry hm (Nat.le_refl n) (by omega)),
      read_consEntry hm]
    split
    · rw [if_pos (by omega)]
    · split
      · rename_i heq
        subst heq
        rw [if_pos (by omega)]
      · rw [if_neg (by omega)]

/-- The memory of a created CPU is canonical. -/
theorem wf_ofInit (initMem : Word → Byte) : Memory.wf (Memory.ofInit initMem) = true := by
  unfold Memory.ofInit
  exact wfFrom_ofInitBelow initMem (Nat.le_refl _) (by rfl)

/-- The memory of a created CPU holds what `INIT_MEM` gives, at every address. -/
theorem read_ofInit (initMem : Word → Byte) (addr : Word) :
    Memory.read addr.toNat (Memory.ofInit initMem) = initMem addr := by
  unfold Memory.ofInit
  rw [read_ofInitBelow initMem (Nat.le_refl _) (by rfl), if_pos addr.isLt]
  simp

@[simp] theorem create_mem (cfg : Config) : (State.create cfg).mem = Memory.ofInit cfg.initMem := rfl

@[simp] theorem create_haltMode (cfg : Config) : (State.create cfg).haltMode = cfg.haltMode := rfl

@[simp] theorem create_read (cfg : Config) (addr : Word) : (State.create cfg).read addr = cfg.initMem addr := by
  unfold State.read
  rw [create_mem, read_ofInit]

/-! ## The `ram` of a snapshot -/

/-- Writing the `ram` pairs changes the memory alone. -/
theorem writeRam_eq (s : State) (ram : List (Word × Byte)) :
    s.writeRam ram = { s with mem := (s.writeRam ram).mem } := by
  induction ram generalizing s with
  | nil => rfl
  | cons cell ram ih => rw [State.writeRam, ih]; rfl

/-- The memory that results depends on the memory before and the pairs alone. -/
theorem writeRam_mem_congr {s t : State} (h : s.mem = t.mem) (ram : List (Word × Byte)) :
    (s.writeRam ram).mem = (t.writeRam ram).mem := by
  induction ram generalizing s t with
  | nil => exact h
  | cons cell ram ih =>
    refine ih ?_
    rw [write_mem, write_mem, h]

end Sys2Proof.Machine
end

