-- ==== Sys2Proof/Laws/Ops.lean ====
section
/-! SUPPORT. What each shared operation does, once: the stack, the EI delay, the exception, the step, and the
shared meanings of the families. -/

namespace Sys2Proof.Machine

/-! ## Bytes and words -/

theorem concatBytes_toNat (hi lo : Byte) : (concatBytes hi lo).toNat = hi.toNat * 256 + lo.toNat := by
  have := hi.isLt
  have := lo.isLt
  simp only [concatBytes, BitVec.toNat_ofNat]
  omega

theorem lowByte_toNat (v : Word) : (lowByte v).toNat = v.toNat % 256 := by
  simp [lowByte]

theorem highByte_toNat (v : Word) : (highByte v).toNat = v.toNat / 256 := by
  have := v.isLt
  simp only [highByte, BitVec.toNat_ofNat]
  omega

@[simp] theorem lowByte_concatBytes (hi lo : Byte) : lowByte (concatBytes hi lo) = lo := by
  apply BitVec.eq_of_toNat_eq
  have := lo.isLt
  rw [lowByte_toNat, concatBytes_toNat]
  omega

@[simp] theorem highByte_concatBytes (hi lo : Byte) : highByte (concatBytes hi lo) = hi := by
  apply BitVec.eq_of_toNat_eq
  have := lo.isLt
  rw [highByte_toNat, concatBytes_toNat]
  omega

@[simp] theorem concatBytes_high_low (v : Word) : concatBytes (highByte v) (lowByte v) = v := by
  apply BitVec.eq_of_toNat_eq
  rw [concatBytes_toNat, highByte_toNat, lowByte_toNat]
  omega

theorem word_add_one_add_one (v : Word) : v + 1 + 1 = v + 2 := by
  rw [BitVec.add_assoc]; rfl

theorem word_sub_one_sub_one (v : Word) : v - 1 - 1 = v - 2 := by
  bv_omega

/-- What a state with a canonical memory reads as after the `ram` pairs of a snapshot are written. -/
theorem read_writeRam {s : State} (hs : s.mem.wf = true) (ram : List (Word × Byte)) (addr : Word) :
    (s.writeRam ram).read addr = afterStores addr (s.read addr) ram := by
  induction ram generalizing s with
  | nil => rfl
  | cons cell ram ih =>
    rw [State.writeRam, ih (wf_write_mem hs _ _), read_write hs]
    rfl

/-! ## The stack -/

/-- `push16` in one piece (44_control.md R252). -/
theorem push16_eq (s : State) (v : Word) : s.push16 v = afterPush s v := by
  simp only [State.push16, afterPush, write_sp, setSp_sp, word_sub_one_sub_one]
  rfl

/-- The word `pop16` reads (44_control.md R253). -/
theorem stackTop_eq (s : State) : s.stackTop = concatBytes (s.read (s.sp + 1)) (s.read s.sp) := rfl

/-- The state `pop16` leaves (44_control.md R253). -/
theorem dropStack_eq (s : State) : s.dropStack = { s with sp := s.sp + 2 } := by
  simp only [State.dropStack, word_add_one_add_one]
  rfl

/-- The 16-bit immediate in one piece (00_scope.md R12, R13). -/
theorem imm16_eq (s : State) : s.imm16 = operandWord s := by
  simp only [State.imm16, State.read16, operandWord, word_add_one_add_one]

/-! ## The EI delay and the exception -/

/-- The EI delay in one piece (30_encoding.md R90). -/
theorem promoteEi_eq (s : State) :
    s.promoteEi = { s with ime := if s.ei = 0 then s.ime else 1, ei := 0 } := by
  unfold State.promoteEi
  by_cases h : s.ei = 0
  · rw [if_neg (by simpa using h), if_pos h]
    rw [← h]
  · rw [if_pos h, if_neg h]
    rfl

/-- DecodeError entry (60_exceptions.md R371). -/
theorem raiseDecodeError_eq (s : State) (op : Byte) :
    s.raiseDecodeError op = { s with status := .faulted { addr := s.pc, opcode := op } } := rfl

/-! ## One step -/

/-- Everything a step that answers a next state can be: the decoded instruction after the EI delay, or the
DecodeError entry. -/
theorem step_next_cases {s t : State} (h : step s = .next t) :
    s.status = .running ∧
      ((∃ i, s.fetchEntry = some i ∧ exec i s.promoteEi = .next t) ∨
        (s.fetchEntry = none ∧ t = s.raiseDecodeError s.opcode)) := by
  unfold step at h
  split at h
  · rename_i hrun
    refine ⟨hrun, ?_⟩
    split at h
    · rename_i i hi
      exact .inl ⟨i, hi, h⟩
    · rename_i hnone
      simp only [exec, execNoTableEntry, Host.Outcome.next.injEq] at h
      exact .inr ⟨hnone, h.symm⟩
  all_goals cases h

/-- A running step of an opcode with an entry. -/
theorem step_entry {s : State} {i : Instr} (hrun : s.status = .running) (hi : s.fetchEntry = some i) :
    step s = exec i s.promoteEi := by
  simp [step, hrun, hi]

/-- A running step of an opcode without an entry. -/
theorem step_noEntry {s : State} (hrun : s.status = .running) (hi : s.fetchEntry = none) :
    step s = .next (s.raiseDecodeError s.opcode) := by
  simp [step, hrun, hi, exec, execNoTableEntry]

/-! ## The shared meanings -/

theorem accumulatorOp_eq (op : AluOp) (src : AluSrc) (s : State) :
    accumulatorOp op src s = .next
      { s with
        a := (aluResult op s.a (s.aluOperand src) s.f).1
        f := (aluResult op s.a (s.aluOperand src) s.f).2
        pc := s.pc + aluLength src } := rfl

theorem incrementLoc_eq (x : Loc8) (s : State) :
    incrementLoc x s = .next
      { s.writeLoc x (incByte (s.readLoc x) s.f).1 with
        f := (incByte (s.readLoc x) s.f).2
        pc := s.pc + 1 } := by
  cases x <;> rfl

theorem decrementLoc_eq (x : Loc8) (s : State) :
    decrementLoc x s = .next
      { s.writeLoc x (decByte (s.readLoc x) s.f).1 with
        f := (decByte (s.readLoc x) s.f).2
        pc := s.pc + 1 } := by
  cases x <;> rfl

theorem rotateLoc_eq (op : RotOp) (x : Loc8) (s : State) :
    rotateLoc op x s = .next
      { s.writeLoc x (rotResult op (s.readLoc x) s.f.c).1 with
        f := rotFlags (rotResult op (s.readLoc x) s.f.c).1 (rotResult op (s.readLoc x) s.f.c).2
        pc := s.pc + 2 } := by
  cases x <;> rfl

theorem rotateAccumulator_eq (op : AccRot) (s : State) :
    rotateAccumulator op s = .next
      { s with
        a := (rotResult (accRotOp op) s.a s.f.c).1
        f := accRotFlags (rotResult (accRotOp op) s.a s.f.c).2
        pc := s.pc + 1 } := rfl

/-- A location write keeps the canonical form of the memory. -/
theorem wf_writeLoc {s : State} (hs : s.mem.wf = true) (x : Loc8) (v : Byte) :
    (s.writeLoc x v).mem.wf = true := by
  cases x <;> first | exact hs | exact wf_write_mem hs _ _

/-- A push keeps the canonical form of the memory. -/
theorem wf_push16 {s : State} (hs : s.mem.wf = true) (v : Word) : (s.push16 v).mem.wf = true := by
  rw [push16_eq]
  exact wf_write_mem (wf_write_mem hs _ _) _ _

/-- The CB table entry behind the prefix means its instruction (30_encoding.md R105). -/
theorem execCbOp_eq (op : CbOp) (s : State) : execCbOp op s = exec (.cbOf op) s := by
  cases op with
  | rot op x => cases op <;> rfl
  | bit n x => rfl
  | res n x => rfl
  | set n x => rfl

end Sys2Proof.Machine
end

