-- ==== Sys2Proof/Laws/Decode.lean ====
section
/-! SUPPORT. Laws of decoding: every byte decodes to a well-formed row, and how `decode` splits a string. -/

namespace Sys2Proof

/-- The rows of the plain table are well-formed, except the prefix. -/
theorem plainTable_wellFormed :
    (plainTable.all fun x => match x with
      | some i => WellFormed i || i == Instr.prefixCb
      | none => true) = true := by
  decide +kernel

/-- A string with an instruction's two leading bytes splits after the instruction. -/
theorem decode_cons_cons (b0 b1 : Byte) (rest : List Byte) :
    decode (b0 :: b1 :: rest)
      = if (decodeRow b0 b1).length ≤ rest.length + 2 then
          .ok (decodeRow b0 b1, (b1 :: rest).drop ((decodeRow b0 b1).length - 1))
        else .error (.truncated (decodeRow b0 b1).length) := by
  simp [decode]

/-- No instruction has more than three bytes (30_encoding.md R91). -/
theorem length_le_three (i : Instr) : i.length ≤ 3 := by
  unfold Instr.length
  cases i.format <;> decide

/-- Every instruction has at least one byte. -/
theorem one_le_length (i : Instr) : 1 ≤ i.length := by
  unfold Instr.length
  cases i.format <;> decide

namespace Machine

/-- The three bytes at PC always decode, to the row of the first two. -/
theorem decode_fetchBytes (s : State) :
    decode s.fetchBytes = .ok (decodeRow s.opcode (s.read (s.pc + 1)),
      [s.read (s.pc + 1), s.read (s.pc + 2)].drop ((decodeRow s.opcode (s.read (s.pc + 1))).length - 1)) := by
  unfold State.fetchBytes
  rw [decode_cons_cons, if_pos]
  · rfl
  · exact length_le_three _

end Machine

end Sys2Proof
end

