-- ==== Sys2Proof/Laws/Families.lean ====
section
/-! SUPPORT. Every instruction belongs to a family of the table, and the family has one shared meaning: a claim about
all instructions needs one case for each family. -/

namespace Sys2Proof.Machine

/-! ## The shared meaning of each family -/

@[simp] theorem exec_ldOf (r r' : Reg8) (s : State) : exec (.ldOf r r') s = loadReg r r' s := by
  cases r <;> cases r' <;> rfl

@[simp] theorem exec_ldIndHlOf (r : Reg8) (s : State) : exec (.ldIndHlOf r) s = loadRegFromHl r s := by
  cases r <;> rfl

@[simp] theorem exec_stIndHlOf (r : Reg8) (s : State) : exec (.stIndHlOf r) s = storeRegAtHl r s := by
  cases r <;> rfl

@[simp] theorem exec_ldN8Of (r : Reg8) (s : State) : exec (.ldN8Of r) s = loadRegImm r s := by
  cases r <;> rfl

@[simp] theorem exec_stMemOf (m : MemMode) (s : State) : exec (.stMemOf m) s = storeAccIndirect m s := by
  cases m <;> rfl

@[simp] theorem exec_ldMemOf (m : MemMode) (s : State) : exec (.ldMemOf m) s = loadAccIndirect m s := by
  cases m <;> rfl

@[simp] theorem exec_ldN16Of (p : Pair) (s : State) : exec (.ldN16Of p) s = loadPairImm p s := by
  cases p <;> rfl

@[simp] theorem exec_incPairOf (p : Pair) (s : State) : exec (.incPairOf p) s = incrementPair p s := by
  cases p <;> rfl

@[simp] theorem exec_decPairOf (p : Pair) (s : State) : exec (.decPairOf p) s = decrementPair p s := by
  cases p <;> rfl

@[simp] theorem exec_addHlOf (p : Pair) (s : State) : exec (.addHlOf p) s = addToHl p s := by
  cases p <;> rfl

@[simp] theorem exec_pushOf (p : StkPair) (s : State) : exec (.pushOf p) s = pushPair p s := by
  cases p <;> rfl

@[simp] theorem exec_popOf (p : StkPair) (s : State) : exec (.popOf p) s = popPair p s := by
  cases p <;> rfl

@[simp] theorem exec_jpOf (cc : Cond) (s : State) : exec (.jpOf cc) s = jumpIf cc s := by
  cases cc <;> rfl

@[simp] theorem exec_jrOf (cc : Cond) (s : State) : exec (.jrOf cc) s = jumpRelativeIf cc s := by
  cases cc <;> rfl

@[simp] theorem exec_callOf (cc : Cond) (s : State) : exec (.callOf cc) s = callIf cc s := by
  cases cc <;> rfl

@[simp] theorem exec_retOf (cc : Cond) (s : State) : exec (.retOf cc) s = returnIf cc s := by
  cases cc <;> rfl

@[simp] theorem exec_rstOf (t : Fin 8) (s : State) : exec (.rstOf t) s = restartAt (BitVec.ofNat 8 (8 * t.val)) s := by
  match t with
  | 0 => rfl
  | 1 => rfl
  | 2 => rfl
  | 3 => rfl
  | 4 => rfl
  | 5 => rfl
  | 6 => rfl
  | 7 => rfl

@[simp] theorem exec_incOf (x : Loc8) (s : State) : exec (.incOf x) s = incrementLoc x s := by
  cases x <;> rfl

@[simp] theorem exec_decOf (x : Loc8) (s : State) : exec (.decOf x) s = decrementLoc x s := by
  cases x <;> rfl

@[simp] theorem exec_aluOf (op : AluOp) (src : AluSrc) (s : State) : exec (.aluOf op src) s = accumulatorOp op src s := by
  cases op <;> rcases src with (_ | _) | _ | _ <;> rfl

@[simp] theorem exec_accRotOf (op : AccRot) (s : State) : exec (.accRotOf op) s = rotateAccumulator op s := by
  cases op <;> rfl

@[simp] theorem exec_rotOf (op : RotOp) (x : Loc8) (s : State) : exec (.rotOf op x) s = rotateLoc op x s := by
  cases op <;> rfl

@[simp] theorem exec_cbOf (op : CbOp) (s : State) : exec (.cbOf op) s = execCbOp op s :=
  (execCbOp_eq op s).symm

/-! ## The case split over families -/

/-- A claim that holds for each family holds for every instruction. -/
theorem instr_families {P : Instr → Prop}
    (ld : ∀ (r r' : Reg8), P (.ldOf r r'))
    (ldIndHl : ∀ (r : Reg8), P (.ldIndHlOf r))
    (stIndHl : ∀ (r : Reg8), P (.stIndHlOf r))
    (ldN8 : ∀ (r : Reg8), P (.ldN8Of r))
    (stMem : ∀ (m : MemMode), P (.stMemOf m))
    (ldMem : ∀ (m : MemMode), P (.ldMemOf m))
    (ldN16 : ∀ (p : Pair), P (.ldN16Of p))
    (incPair : ∀ (p : Pair), P (.incPairOf p))
    (decPair : ∀ (p : Pair), P (.decPairOf p))
    (addHl : ∀ (p : Pair), P (.addHlOf p))
    (push : ∀ (p : StkPair), P (.pushOf p))
    (pop : ∀ (p : StkPair), P (.popOf p))
    (jpCc : ∀ (cc : Cond), P (.jpOf cc))
    (jrCc : ∀ (cc : Cond), P (.jrOf cc))
    (callCc : ∀ (cc : Cond), P (.callOf cc))
    (retCc : ∀ (cc : Cond), P (.retOf cc))
    (rst : ∀ (t : Fin 8), P (.rstOf t))
    (inc : ∀ (x : Loc8), P (.incOf x))
    (dec : ∀ (x : Loc8), P (.decOf x))
    (alu : ∀ (op : AluOp) (src : AluSrc), P (.aluOf op src))
    (accRot : ∀ (op : AccRot), P (.accRotOf op))
    (rot : ∀ (op : RotOp) (x : Loc8), P (.rotOf op x))
    (bit : ∀ (n : BitVec 3) (x : Loc8), P (.bitBR n x))
    (res : ∀ (n : BitVec 3) (x : Loc8), P (.resBR n x))
    (set : ∀ (n : BitVec 3) (x : Loc8), P (.setBR n x))
    (noTableEntry : ∀ op : Byte, P (.noTableEntry op))
    (nop : P .nop) (stop : P .stop) (halt : P .halt) (ldIndA16Sp : P .ldIndA16Sp) (jrE8 : P .jrE8)
    (daa : P .daa) (cpl : P .cpl) (scf : P .scf) (ccf : P .ccf) (ldIndHlN8 : P .ldIndHlN8)
    (jpA16 : P .jpA16) (ret : P .ret) (callA16 : P .callA16) (reti : P .reti)
    (ldhIndA8A : P .ldhIndA8A) (ldIndCA : P .ldIndCA) (addSpE8 : P .addSpE8) (jpHl : P .jpHl)
    (ldIndA16A : P .ldIndA16A) (ldhAIndA8 : P .ldhAIndA8) (ldAIndC : P .ldAIndC) (di : P .di)
    (ldHlSpE8 : P .ldHlSpE8) (ldSpHl : P .ldSpHl) (ldAIndA16 : P .ldAIndA16) (ei : P .ei)
    (prefixCb : P .prefixCb)
    (i : Instr) : P i := by
  cases i with
  | nop => exact nop
  | ldBcN16 => exact ldN16 .bc
  | ldIndBcA => exact stMem .bc
  | incBc => exact incPair .bc
  | incB => exact inc .b
  | decB => exact dec .b
  | ldBN8 => exact ldN8 .b
  | rlca => exact accRot .rlca
  | ldIndA16Sp => exact ldIndA16Sp
  | addHlBc => exact addHl .bc
  | ldAIndBc => exact ldMem .bc
  | decBc => exact decPair .bc
  | incC => exact inc .c
  | decC => exact dec .c
  | ldCN8 => exact ldN8 .c
  | rrca => exact accRot .rrca
  | stop => exact stop
  | ldDeN16 => exact ldN16 .de
  | ldIndDeA => exact stMem .de
  | incDe => exact incPair .de
  | incD => exact inc .d
  | decD => exact dec .d
  | ldDN8 => exact ldN8 .d
  | rla => exact accRot .rla
  | jrE8 => exact jrE8
  | addHlDe => exact addHl .de
  | ldAIndDe => exact ldMem .de
  | decDe => exact decPair .de
  | incE => exact inc .e
  | decE => exact dec .e
  | ldEN8 => exact ldN8 .e
  | rra => exact accRot .rra
  | jrNzE8 => exact jrCc .nz
  | ldHlN16 => exact ldN16 .hl
  | ldIndHliA => exact stMem .hli
  | incHl => exact incPair .hl
  | incH => exact inc .h
  | decH => exact dec .h
  | ldHN8 => exact ldN8 .h
  | daa => exact daa
  | jrZE8 => exact jrCc .z
  | addHlHl => exact addHl .hl
  | ldAIndHli => exact ldMem .hli
  | decHl => exact decPair .hl
  | incL => exact inc .l
  | decL => exact dec .l
  | ldLN8 => exact ldN8 .l
  | cpl => exact cpl
  | jrNcE8 => exact jrCc .nc
  | ldSpN16 => exact ldN16 .sp
  | ldIndHldA => exact stMem .hld
  | incSp => exact incPair .sp
  | incIndHl => exact inc .indHl
  | decIndHl => exact dec .indHl
  | ldIndHlN8 => exact ldIndHlN8
  | scf => exact scf
  | jrCE8 => exact jrCc .c
  | addHlSp => exact addHl .sp
  | ldAIndHld => exact ldMem .hld
  | decSp => exact decPair .sp
  | incA => exact inc .a
  | decA => exact dec .a
  | ldAN8 => exact ldN8 .a
  | ccf => exact ccf
  | ldBB => exact ld .b .b
  | ldBC => exact ld .b .c
  | ldBD => exact ld .b .d
  | ldBE => exact ld .b .e
  | ldBH => exact ld .b .h
  | ldBL => exact ld .b .l
  | ldBIndHl => exact ldIndHl .b
  | ldBA => exact ld .b .a
  | ldCB => exact ld .c .b
  | ldCC => exact ld .c .c
  | ldCD => exact ld .c .d
  | ldCE => exact ld .c .e
  | ldCH => exact ld .c .h
  | ldCL => exact ld .c .l
  | ldCIndHl => exact ldIndHl .c
  | ldCA => exact ld .c .a
  | ldDB => exact ld .d .b
  | ldDC => exact ld .d .c
  | ldDD => exact ld .d .d
  | ldDE => exact ld .d .e
  | ldDH => exact ld .d .h
  | ldDL => exact ld .d .l
  | ldDIndHl => exact ldIndHl .d
  | ldDA => exact ld .d .a
  | ldEB => exact ld .e .b
  | ldEC => exact ld .e .c
  | ldED => exact ld .e .d
  | ldEE => exact ld .e .e
  | ldEH => exact ld .e .h
  | ldEL => exact ld .e .l
  | ldEIndHl => exact ldIndHl .e
  | ldEA => exact ld .e .a
  | ldHB => exact ld .h .b
  | ldHC => exact ld .h .c
  | ldHD => exact ld .h .d
  | ldHE => exact ld .h .e
  | ldHH => exact ld .h .h
  | ldHL => exact ld .h .l
  | ldHIndHl => exact ldIndHl .h
  | ldHA => exact ld .h .a
  | ldLB => exact ld .l .b
  | ldLC => exact ld .l .c
  | ldLD => exact ld .l .d
  | ldLE => exact ld .l .e
  | ldLH => exact ld .l .h
  | ldLL => exact ld .l .l
  | ldLIndHl => exact ldIndHl .l
  | ldLA => exact ld .l .a
  | ldIndHlB => exact stIndHl .b
  | ldIndHlC => exact stIndHl .c
  | ldIndHlD => exact stIndHl .d
  | ldIndHlE => exact stIndHl .e
  | ldIndHlH => exact stIndHl .h
  | ldIndHlL => exact stIndHl .l
  | halt => exact halt
  | ldIndHlA => exact stIndHl .a
  | ldAB => exact ld .a .b
  | ldAC => exact ld .a .c
  | ldAD => exact ld .a .d
  | ldAE => exact ld .a .e
  | ldAH => exact ld .a .h
  | ldAL => exact ld .a .l
  | ldAIndHl => exact ldIndHl .a
  | ldAA => exact ld .a .a
  | addAB => exact alu .add (.reg .b)
  | addAC => exact alu .add (.reg .c)
  | addAD => exact alu .add (.reg .d)
  | addAE => exact alu .add (.reg .e)
  | addAH => exact alu .add (.reg .h)
  | addAL => exact alu .add (.reg .l)
  | addAIndHl => exact alu .add .indHl
  | addAA => exact alu .add (.reg .a)
  | adcAB => exact alu .adc (.reg .b)
  | adcAC => exact alu .adc (.reg .c)
  | adcAD => exact alu .adc (.reg .d)
  | adcAE => exact alu .adc (.reg .e)
  | adcAH => exact alu .adc (.reg .h)
  | adcAL => exact alu .adc (.reg .l)
  | adcAIndHl => exact alu .adc .indHl
  | adcAA => exact alu .adc (.reg .a)
  | subAB => exact alu .sub (.reg .b)
  | subAC => exact alu .sub (.reg .c)
  | subAD => exact alu .sub (.reg .d)
  | subAE => exact alu .sub (.reg .e)
  | subAH => exact alu .sub (.reg .h)
  | subAL => exact alu .sub (.reg .l)
  | subAIndHl => exact alu .sub .indHl
  | subAA => exact alu .sub (.reg .a)
  | sbcAB => exact alu .sbc (.reg .b)
  | sbcAC => exact alu .sbc (.reg .c)
  | sbcAD => exact alu .sbc (.reg .d)
  | sbcAE => exact alu .sbc (.reg .e)
  | sbcAH => exact alu .sbc (.reg .h)
  | sbcAL => exact alu .sbc (.reg .l)
  | sbcAIndHl => exact alu .sbc .indHl
  | sbcAA => exact alu .sbc (.reg .a)
  | andAB => exact alu .and (.reg .b)
  | andAC => exact alu .and (.reg .c)
  | andAD => exact alu .and (.reg .d)
  | andAE => exact alu .and (.reg .e)
  | andAH => exact alu .and (.reg .h)
  | andAL => exact alu .and (.reg .l)
  | andAIndHl => exact alu .and .indHl
  | andAA => exact alu .and (.reg .a)
  | xorAB => exact alu .xor (.reg .b)
  | xorAC => exact alu .xor (.reg .c)
  | xorAD => exact alu .xor (.reg .d)
  | xorAE => exact alu .xor (.reg .e)
  | xorAH => exact alu .xor (.reg .h)
  | xorAL => exact alu .xor (.reg .l)
  | xorAIndHl => exact alu .xor .indHl
  | xorAA => exact alu .xor (.reg .a)
  | orAB => exact alu .or (.reg .b)
  | orAC => exact alu .or (.reg .c)
  | orAD => exact alu .or (.reg .d)
  | orAE => exact alu .or (.reg .e)
  | orAH => exact alu .or (.reg .h)
  | orAL => exact alu .or (.reg .l)
  | orAIndHl => exact alu .or .indHl
  | orAA => exact alu .or (.reg .a)
  | cpAB => exact alu .cp (.reg .b)
  | cpAC => exact alu .cp (.reg .c)
  | cpAD => exact alu .cp (.reg .d)
  | cpAE => exact alu .cp (.reg .e)
  | cpAH => exact alu .cp (.reg .h)
  | cpAL => exact alu .cp (.reg .l)
  | cpAIndHl => exact alu .cp .indHl
  | cpAA => exact alu .cp (.reg .a)
  | retNz => exact retCc .nz
  | popBc => exact pop .bc
  | jpNzA16 => exact jpCc .nz
  | jpA16 => exact jpA16
  | callNzA16 => exact callCc .nz
  | pushBc => exact push .bc
  | addAN8 => exact alu .add .n8
  | rst00 => exact rst 0
  | retZ => exact retCc .z
  | ret => exact ret
  | jpZA16 => exact jpCc .z
  | prefixCb => exact prefixCb
  | callZA16 => exact callCc .z
  | callA16 => exact callA16
  | adcAN8 => exact alu .adc .n8
  | rst08 => exact rst 1
  | retNc => exact retCc .nc
  | popDe => exact pop .de
  | jpNcA16 => exact jpCc .nc
  | noTableEntry op => exact noTableEntry op
  | callNcA16 => exact callCc .nc
  | pushDe => exact push .de
  | subAN8 => exact alu .sub .n8
  | rst10 => exact rst 2
  | retC => exact retCc .c
  | reti => exact reti
  | jpCA16 => exact jpCc .c
  | callCA16 => exact callCc .c
  | sbcAN8 => exact alu .sbc .n8
  | rst18 => exact rst 3
  | ldhIndA8A => exact ldhIndA8A
  | popHl => exact pop .hl
  | ldIndCA => exact ldIndCA
  | pushHl => exact push .hl
  | andAN8 => exact alu .and .n8
  | rst20 => exact rst 4
  | addSpE8 => exact addSpE8
  | jpHl => exact jpHl
  | ldIndA16A => exact ldIndA16A
  | xorAN8 => exact alu .xor .n8
  | rst28 => exact rst 5
  | ldhAIndA8 => exact ldhAIndA8
  | popAf => exact pop .af
  | ldAIndC => exact ldAIndC
  | di => exact di
  | pushAf => exact push .af
  | orAN8 => exact alu .or .n8
  | rst30 => exact rst 6
  | ldHlSpE8 => exact ldHlSpE8
  | ldSpHl => exact ldSpHl
  | ldAIndA16 => exact ldAIndA16
  | ei => exact ei
  | cpAN8 => exact alu .cp .n8
  | rst38 => exact rst 7
  | rlcR x => exact rot .rlc x
  | rrcR x => exact rot .rrc x
  | rlR x => exact rot .rl x
  | rrR x => exact rot .rr x
  | slaR x => exact rot .sla x
  | sraR x => exact rot .sra x
  | swapR x => exact rot .swap x
  | srlR x => exact rot .srl x
  | bitBR n x => exact bit n x
  | resBR n x => exact res n x
  | setBR n x => exact set n x

end Sys2Proof.Machine
end

