-- ==== Sys2Proof/Tests/Slice0.lean ====
section
/-! SUPPORT. Tests: the ill-formed terms WellFormed refuses, words written out from the spec's encodings
(spec/opcode_table.json; 30_encoding.md R101, R104), single steps from the vectors of 95_test_vectors.md part 2,
and for each statement with hypotheses a witness that they can be met. -/

namespace Sys2Proof.Tests

open Sys2Proof.Machine

/-! ## WellFormed -/

theorem test_wellFormed_refuses_a_plain_opcode_as_unused : WellFormed (.noTableEntry 0x00) = false := by decide
theorem test_wellFormed_refuses_the_prefix_as_unused : WellFormed (.noTableEntry 0xCB) = false := by decide
theorem test_wellFormed_refuses_the_bare_prefix : WellFormed .prefixCb = false := by decide
theorem test_wellFormed_accepts_the_unused_opcodes :
    (unusedOpcodes.all fun op => WellFormed (.noTableEntry op)) = true := by decide
theorem test_wellFormed_accepts_each_shape :
    WellFormed .nop = true ∧ WellFormed (.rlcR .indHl) = true ∧ WellFormed (.bitBR 7 .a) = true := by decide

/-! ## Decoding, by the words of spec/opcode_table.json -/

theorem test_decode_row_0 :
    [0x00, 0x01, 0x02, 0x03, 0x04, 0x05, 0x06, 0x07, 0x08, 0x09, 0x0A, 0x0B, 0x0C, 0x0D, 0x0E, 0x0F].map
      (decodeTableWord 8) =
    [some .nop, some .ldBcN16, some .ldIndBcA, some .incBc,
      some .incB, some .decB, some .ldBN8, some .rlca,
      some .ldIndA16Sp, some .addHlBc, some .ldAIndBc, some .decBc,
      some .incC, some .decC, some .ldCN8, some .rrca] := by decide
theorem test_decode_row_1 :
    [0x10, 0x11, 0x12, 0x13, 0x14, 0x15, 0x16, 0x17, 0x18, 0x19, 0x1A, 0x1B, 0x1C, 0x1D, 0x1E, 0x1F].map
      (decodeTableWord 8) =
    [some .stop, some .ldDeN16, some .ldIndDeA, some .incDe,
      some .incD, some .decD, some .ldDN8, some .rla,
      some .jrE8, some .addHlDe, some .ldAIndDe, some .decDe,
      some .incE, some .decE, some .ldEN8, some .rra] := by decide
theorem test_decode_row_2 :
    [0x20, 0x21, 0x22, 0x23, 0x24, 0x25, 0x26, 0x27, 0x28, 0x29, 0x2A, 0x2B, 0x2C, 0x2D, 0x2E, 0x2F].map
      (decodeTableWord 8) =
    [some .jrNzE8, some .ldHlN16, some .ldIndHliA, some .incHl,
      some .incH, some .decH, some .ldHN8, some .daa,
      some .jrZE8, some .addHlHl, some .ldAIndHli, some .decHl,
      some .incL, some .decL, some .ldLN8, some .cpl] := by decide
theorem test_decode_row_3 :
    [0x30, 0x31, 0x32, 0x33, 0x34, 0x35, 0x36, 0x37, 0x38, 0x39, 0x3A, 0x3B, 0x3C, 0x3D, 0x3E, 0x3F].map
      (decodeTableWord 8) =
    [some .jrNcE8, some .ldSpN16, some .ldIndHldA, some .incSp,
      some .incIndHl, some .decIndHl, some .ldIndHlN8, some .scf,
      some .jrCE8, some .addHlSp, some .ldAIndHld, some .decSp,
      some .incA, some .decA, some .ldAN8, some .ccf] := by decide
theorem test_decode_row_4 :
    [0x40, 0x41, 0x42, 0x43, 0x44, 0x45, 0x46, 0x47, 0x48, 0x49, 0x4A, 0x4B, 0x4C, 0x4D, 0x4E, 0x4F].map
      (decodeTableWord 8) =
    [some .ldBB, some .ldBC, some .ldBD, some .ldBE,
      some .ldBH, some .ldBL, some .ldBIndHl, some .ldBA,
      some .ldCB, some .ldCC, some .ldCD, some .ldCE,
      some .ldCH, some .ldCL, some .ldCIndHl, some .ldCA] := by decide
theorem test_decode_row_5 :
    [0x50, 0x51, 0x52, 0x53, 0x54, 0x55, 0x56, 0x57, 0x58, 0x59, 0x5A, 0x5B, 0x5C, 0x5D, 0x5E, 0x5F].map
      (decodeTableWord 8) =
    [some .ldDB, some .ldDC, some .ldDD, some .ldDE,
      some .ldDH, some .ldDL, some .ldDIndHl, some .ldDA,
      some .ldEB, some .ldEC, some .ldED, some .ldEE,
      some .ldEH, some .ldEL, some .ldEIndHl, some .ldEA] := by decide
theorem test_decode_row_6 :
    [0x60, 0x61, 0x62, 0x63, 0x64, 0x65, 0x66, 0x67, 0x68, 0x69, 0x6A, 0x6B, 0x6C, 0x6D, 0x6E, 0x6F].map
      (decodeTableWord 8) =
    [some .ldHB, some .ldHC, some .ldHD, some .ldHE,
      some .ldHH, some .ldHL, some .ldHIndHl, some .ldHA,
      some .ldLB, some .ldLC, some .ldLD, some .ldLE,
      some .ldLH, some .ldLL, some .ldLIndHl, some .ldLA] := by decide
theorem test_decode_row_7 :
    [0x70, 0x71, 0x72, 0x73, 0x74, 0x75, 0x76, 0x77, 0x78, 0x79, 0x7A, 0x7B, 0x7C, 0x7D, 0x7E, 0x7F].map
      (decodeTableWord 8) =
    [some .ldIndHlB, some .ldIndHlC, some .ldIndHlD, some .ldIndHlE,
      some .ldIndHlH, some .ldIndHlL, some .halt, some .ldIndHlA,
      some .ldAB, some .ldAC, some .ldAD, some .ldAE,
      some .ldAH, some .ldAL, some .ldAIndHl, some .ldAA] := by decide
theorem test_decode_row_8 :
    [0x80, 0x81, 0x82, 0x83, 0x84, 0x85, 0x86, 0x87, 0x88, 0x89, 0x8A, 0x8B, 0x8C, 0x8D, 0x8E, 0x8F].map
      (decodeTableWord 8) =
    [some .addAB, some .addAC, some .addAD, some .addAE,
      some .addAH, some .addAL, some .addAIndHl, some .addAA,
      some .adcAB, some .adcAC, some .adcAD, some .adcAE,
      some .adcAH, some .adcAL, some .adcAIndHl, some .adcAA] := by decide
theorem test_decode_row_9 :
    [0x90, 0x91, 0x92, 0x93, 0x94, 0x95, 0x96, 0x97, 0x98, 0x99, 0x9A, 0x9B, 0x9C, 0x9D, 0x9E, 0x9F].map
      (decodeTableWord 8) =
    [some .subAB, some .subAC, some .subAD, some .subAE,
      some .subAH, some .subAL, some .subAIndHl, some .subAA,
      some .sbcAB, some .sbcAC, some .sbcAD, some .sbcAE,
      some .sbcAH, some .sbcAL, some .sbcAIndHl, some .sbcAA] := by decide
theorem test_decode_row_A :
    [0xA0, 0xA1, 0xA2, 0xA3, 0xA4, 0xA5, 0xA6, 0xA7, 0xA8, 0xA9, 0xAA, 0xAB, 0xAC, 0xAD, 0xAE, 0xAF].map
      (decodeTableWord 8) =
    [some .andAB, some .andAC, some .andAD, some .andAE,
      some .andAH, some .andAL, some .andAIndHl, some .andAA,
      some .xorAB, some .xorAC, some .xorAD, some .xorAE,
      some .xorAH, some .xorAL, some .xorAIndHl, some .xorAA] := by decide
theorem test_decode_row_B :
    [0xB0, 0xB1, 0xB2, 0xB3, 0xB4, 0xB5, 0xB6, 0xB7, 0xB8, 0xB9, 0xBA, 0xBB, 0xBC, 0xBD, 0xBE, 0xBF].map
      (decodeTableWord 8) =
    [some .orAB, some .orAC, some .orAD, some .orAE,
      some .orAH, some .orAL, some .orAIndHl, some .orAA,
      some .cpAB, some .cpAC, some .cpAD, some .cpAE,
      some .cpAH, some .cpAL, some .cpAIndHl, some .cpAA] := by decide
/-- The prefix 0xCB with a zero byte after it is RLC B (30_encoding.md R105). -/
theorem test_decode_row_C :
    [0xC0, 0xC1, 0xC2, 0xC3, 0xC4, 0xC5, 0xC6, 0xC7, 0xC8, 0xC9, 0xCA, 0xCB, 0xCC, 0xCD, 0xCE, 0xCF].map
      (decodeTableWord 8) =
    [some .retNz, some .popBc, some .jpNzA16, some .jpA16,
      some .callNzA16, some .pushBc, some .addAN8, some .rst00,
      some .retZ, some .ret, some .jpZA16, some (.rlcR .b),
      some .callZA16, some .callA16, some .adcAN8, some .rst08] := by decide
theorem test_decode_row_D :
    [0xD0, 0xD1, 0xD2, 0xD3, 0xD4, 0xD5, 0xD6, 0xD7, 0xD8, 0xD9, 0xDA, 0xDB, 0xDC, 0xDD, 0xDE, 0xDF].map
      (decodeTableWord 8) =
    [some .retNc, some .popDe, some .jpNcA16, some (.noTableEntry 0xD3),
      some .callNcA16, some .pushDe, some .subAN8, some .rst10,
      some .retC, some .reti, some .jpCA16, some (.noTableEntry 0xDB),
      some .callCA16, some (.noTableEntry 0xDD), some .sbcAN8, some .rst18] := by decide
theorem test_decode_row_E :
    [0xE0, 0xE1, 0xE2, 0xE3, 0xE4, 0xE5, 0xE6, 0xE7, 0xE8, 0xE9, 0xEA, 0xEB, 0xEC, 0xED, 0xEE, 0xEF].map
      (decodeTableWord 8) =
    [some .ldhIndA8A, some .popHl, some .ldIndCA, some (.noTableEntry 0xE3),
      some (.noTableEntry 0xE4), some .pushHl, some .andAN8, some .rst20,
      some .addSpE8, some .jpHl, some .ldIndA16A, some (.noTableEntry 0xEB),
      some (.noTableEntry 0xEC), some (.noTableEntry 0xED), some .xorAN8, some .rst28] := by decide
theorem test_decode_row_F :
    [0xF0, 0xF1, 0xF2, 0xF3, 0xF4, 0xF5, 0xF6, 0xF7, 0xF8, 0xF9, 0xFA, 0xFB, 0xFC, 0xFD, 0xFE, 0xFF].map
      (decodeTableWord 8) =
    [some .ldhAIndA8, some .popAf, some .ldAIndC, some .di,
      some (.noTableEntry 0xF4), some .pushAf, some .orAN8, some .rst30,
      some .ldHlSpE8, some .ldSpHl, some .ldAIndA16, some .ei,
      some (.noTableEntry 0xFC), some (.noTableEntry 0xFD), some .cpAN8, some .rst38] := by decide
theorem test_decode_rlcR :
    [0xCB00, 0xCB01, 0xCB02, 0xCB03, 0xCB04, 0xCB05, 0xCB06, 0xCB07].map
      (decodeTableWord 16) =
    [some (.rlcR .b), some (.rlcR .c), some (.rlcR .d), some (.rlcR .e),
      some (.rlcR .h), some (.rlcR .l), some (.rlcR .indHl), some (.rlcR .a)] := by decide
theorem test_decode_rrcR :
    [0xCB08, 0xCB09, 0xCB0A, 0xCB0B, 0xCB0C, 0xCB0D, 0xCB0E, 0xCB0F].map
      (decodeTableWord 16) =
    [some (.rrcR .b), some (.rrcR .c), some (.rrcR .d), some (.rrcR .e),
      some (.rrcR .h), some (.rrcR .l), some (.rrcR .indHl), some (.rrcR .a)] := by decide
theorem test_decode_rlR :
    [0xCB10, 0xCB11, 0xCB12, 0xCB13, 0xCB14, 0xCB15, 0xCB16, 0xCB17].map
      (decodeTableWord 16) =
    [some (.rlR .b), some (.rlR .c), some (.rlR .d), some (.rlR .e),
      some (.rlR .h), some (.rlR .l), some (.rlR .indHl), some (.rlR .a)] := by decide
theorem test_decode_rrR :
    [0xCB18, 0xCB19, 0xCB1A, 0xCB1B, 0xCB1C, 0xCB1D, 0xCB1E, 0xCB1F].map
      (decodeTableWord 16) =
    [some (.rrR .b), some (.rrR .c), some (.rrR .d), some (.rrR .e),
      some (.rrR .h), some (.rrR .l), some (.rrR .indHl), some (.rrR .a)] := by decide
theorem test_decode_slaR :
    [0xCB20, 0xCB21, 0xCB22, 0xCB23, 0xCB24, 0xCB25, 0xCB26, 0xCB27].map
      (decodeTableWord 16) =
    [some (.slaR .b), some (.slaR .c), some (.slaR .d), some (.slaR .e),
      some (.slaR .h), some (.slaR .l), some (.slaR .indHl), some (.slaR .a)] := by decide
theorem test_decode_sraR :
    [0xCB28, 0xCB29, 0xCB2A, 0xCB2B, 0xCB2C, 0xCB2D, 0xCB2E, 0xCB2F].map
      (decodeTableWord 16) =
    [some (.sraR .b), some (.sraR .c), some (.sraR .d), some (.sraR .e),
      some (.sraR .h), some (.sraR .l), some (.sraR .indHl), some (.sraR .a)] := by decide
theorem test_decode_swapR :
    [0xCB30, 0xCB31, 0xCB32, 0xCB33, 0xCB34, 0xCB35, 0xCB36, 0xCB37].map
      (decodeTableWord 16) =
    [some (.swapR .b), some (.swapR .c), some (.swapR .d), some (.swapR .e),
      some (.swapR .h), some (.swapR .l), some (.swapR .indHl), some (.swapR .a)] := by decide
theorem test_decode_srlR :
    [0xCB38, 0xCB39, 0xCB3A, 0xCB3B, 0xCB3C, 0xCB3D, 0xCB3E, 0xCB3F].map
      (decodeTableWord 16) =
    [some (.srlR .b), some (.srlR .c), some (.srlR .d), some (.srlR .e),
      some (.srlR .h), some (.srlR .l), some (.srlR .indHl), some (.srlR .a)] := by decide
theorem test_decode_bitBR :
    [0xCB40, 0xCB49, 0xCB52, 0xCB5B, 0xCB64, 0xCB6D, 0xCB76, 0xCB7F, 0xCB47, 0xCB78, 0xCB5E].map
      (decodeTableWord 16) =
    [some (.bitBR 0 .b), some (.bitBR 1 .c), some (.bitBR 2 .d), some (.bitBR 3 .e),
      some (.bitBR 4 .h), some (.bitBR 5 .l), some (.bitBR 6 .indHl), some (.bitBR 7 .a),
      some (.bitBR 0 .a), some (.bitBR 7 .b), some (.bitBR 3 .indHl)] := by decide
theorem test_decode_resBR :
    [0xCB80, 0xCB89, 0xCB92, 0xCB9B, 0xCBA4, 0xCBAD, 0xCBB6, 0xCBBF, 0xCB87, 0xCBB8, 0xCB9E].map
      (decodeTableWord 16) =
    [some (.resBR 0 .b), some (.resBR 1 .c), some (.resBR 2 .d), some (.resBR 3 .e),
      some (.resBR 4 .h), some (.resBR 5 .l), some (.resBR 6 .indHl), some (.resBR 7 .a),
      some (.resBR 0 .a), some (.resBR 7 .b), some (.resBR 3 .indHl)] := by decide
theorem test_decode_setBR :
    [0xCBC0, 0xCBC9, 0xCBD2, 0xCBDB, 0xCBE4, 0xCBED, 0xCBF6, 0xCBFF, 0xCBC7, 0xCBF8, 0xCBDE].map
      (decodeTableWord 16) =
    [some (.setBR 0 .b), some (.setBR 1 .c), some (.setBR 2 .d), some (.setBR 3 .e),
      some (.setBR 4 .h), some (.setBR 5 .l), some (.setBR 6 .indHl), some (.setBR 7 .a),
      some (.setBR 0 .a), some (.setBR 7 .b), some (.setBR 3 .indHl)] := by decide

/-- The bytes after an immediate are left over, and a string that ends inside an instruction is refused
(30_encoding.md R91, R92). -/
theorem test_decode_leaves_the_rest :
    decode [0x3E, 0x42, 0x00] = .ok (.ldAN8, [0x00]) ∧ decode [0xC3, 0x50] = .error (.truncated 3) ∧
    decode [0xCB] = .error (.truncated 2) ∧ decode [] = .error .empty := by decide

/-- Words written out by hand from R101, R102 and the opcode table encode with their immediate. -/
theorem test_encode_words :
    encode .ldHlN16 0x1234 = [0x21, 0x34, 0x12] ∧ encode .ldAN8 0x42 = [0x3E, 0x42] ∧
    encode (.setBR 7 .b) 0 = [0xCB, 0xF8] ∧ encode .stop 0xAA = [0x10, 0xAA] ∧ encode .callA16 0x4000
      = [0xCD, 0x00, 0x40] := by decide

/-! ## Spelling: the cells of the opcode maps (30_encoding.md R104, R105, R110) -/

/-- The spelling of the table entry of an opcode byte. -/
def cell (op : Byte) (isPrefixed : Bool) : Option String := (decodeByte op isPrefixed).bind Instr.spelling

theorem test_map_plain_row_0 :
    [0x00, 0x01, 0x02, 0x03, 0x04, 0x05, 0x06, 0x07, 0x08, 0x09, 0x0A, 0x0B, 0x0C, 0x0D, 0x0E, 0x0F].map
      (cell · false) =
    [some "NOP", some "LD BC,n16", some "LD (BC),A", some "INC BC",
      some "INC B", some "DEC B", some "LD B,n8", some "RLCA",
      some "LD (a16),SP", some "ADD HL,BC", some "LD A,(BC)", some "DEC BC",
      some "INC C", some "DEC C", some "LD C,n8", some "RRCA"] := by rfl
theorem test_map_plain_row_1 :
    [0x10, 0x11, 0x12, 0x13, 0x14, 0x15, 0x16, 0x17, 0x18, 0x19, 0x1A, 0x1B, 0x1C, 0x1D, 0x1E, 0x1F].map
      (cell · false) =
    [some "STOP", some "LD DE,n16", some "LD (DE),A", some "INC DE",
      some "INC D", some "DEC D", some "LD D,n8", some "RLA",
      some "JR e8", some "ADD HL,DE", some "LD A,(DE)", some "DEC DE",
      some "INC E", some "DEC E", some "LD E,n8", some "RRA"] := by rfl
theorem test_map_plain_row_2 :
    [0x20, 0x21, 0x22, 0x23, 0x24, 0x25, 0x26, 0x27, 0x28, 0x29, 0x2A, 0x2B, 0x2C, 0x2D, 0x2E, 0x2F].map
      (cell · false) =
    [some "JR NZ,e8", some "LD HL,n16", some "LD (HL+),A", some "INC HL",
      some "INC H", some "DEC H", some "LD H,n8", some "DAA",
      some "JR Z,e8", some "ADD HL,HL", some "LD A,(HL+)", some "DEC HL",
      some "INC L", some "DEC L", some "LD L,n8", some "CPL"] := by rfl
theorem test_map_plain_row_3 :
    [0x30, 0x31, 0x32, 0x33, 0x34, 0x35, 0x36, 0x37, 0x38, 0x39, 0x3A, 0x3B, 0x3C, 0x3D, 0x3E, 0x3F].map
      (cell · false) =
    [some "JR NC,e8", some "LD SP,n16", some "LD (HL-),A", some "INC SP",
      some "INC (HL)", some "DEC (HL)", some "LD (HL),n8", some "SCF",
      some "JR C,e8", some "ADD HL,SP", some "LD A,(HL-)", some "DEC SP",
      some "INC A", some "DEC A", some "LD A,n8", some "CCF"] := by rfl
theorem test_map_plain_row_4 :
    [0x40, 0x41, 0x42, 0x43, 0x44, 0x45, 0x46, 0x47, 0x48, 0x49, 0x4A, 0x4B, 0x4C, 0x4D, 0x4E, 0x4F].map
      (cell · false) =
    [some "LD B,B", some "LD B,C", some "LD B,D", some "LD B,E",
      some "LD B,H", some "LD B,L", some "LD B,(HL)", some "LD B,A",
      some "LD C,B", some "LD C,C", some "LD C,D", some "LD C,E",
      some "LD C,H", some "LD C,L", some "LD C,(HL)", some "LD C,A"] := by rfl
theorem test_map_plain_row_5 :
    [0x50, 0x51, 0x52, 0x53, 0x54, 0x55, 0x56, 0x57, 0x58, 0x59, 0x5A, 0x5B, 0x5C, 0x5D, 0x5E, 0x5F].map
      (cell · false) =
    [some "LD D,B", some "LD D,C", some "LD D,D", some "LD D,E",
      some "LD D,H", some "LD D,L", some "LD D,(HL)", some "LD D,A",
      some "LD E,B", some "LD E,C", some "LD E,D", some "LD E,E",
      some "LD E,H", some "LD E,L", some "LD E,(HL)", some "LD E,A"] := by rfl
theorem test_map_plain_row_6 :
    [0x60, 0x61, 0x62, 0x63, 0x64, 0x65, 0x66, 0x67, 0x68, 0x69, 0x6A, 0x6B, 0x6C, 0x6D, 0x6E, 0x6F].map
      (cell · false) =
    [some "LD H,B", some "LD H,C", some "LD H,D", some "LD H,E",
      some "LD H,H", some "LD H,L", some "LD H,(HL)", some "LD H,A",
      some "LD L,B", some "LD L,C", some "LD L,D", some "LD L,E",
      some "LD L,H", some "LD L,L", some "LD L,(HL)", some "LD L,A"] := by rfl
theorem test_map_plain_row_7 :
    [0x70, 0x71, 0x72, 0x73, 0x74, 0x75, 0x76, 0x77, 0x78, 0x79, 0x7A, 0x7B, 0x7C, 0x7D, 0x7E, 0x7F].map
      (cell · false) =
    [some "LD (HL),B", some "LD (HL),C", some "LD (HL),D", some "LD (HL),E",
      some "LD (HL),H", some "LD (HL),L", some "HALT", some "LD (HL),A",
      some "LD A,B", some "LD A,C", some "LD A,D", some "LD A,E",
      some "LD A,H", some "LD A,L", some "LD A,(HL)", some "LD A,A"] := by rfl
theorem test_map_plain_row_8 :
    [0x80, 0x81, 0x82, 0x83, 0x84, 0x85, 0x86, 0x87, 0x88, 0x89, 0x8A, 0x8B, 0x8C, 0x8D, 0x8E, 0x8F].map
      (cell · false) =
    [some "ADD A,B", some "ADD A,C", some "ADD A,D", some "ADD A,E",
      some "ADD A,H", some "ADD A,L", some "ADD A,(HL)", some "ADD A,A",
      some "ADC A,B", some "ADC A,C", some "ADC A,D", some "ADC A,E",
      some "ADC A,H", some "ADC A,L", some "ADC A,(HL)", some "ADC A,A"] := by rfl
theorem test_map_plain_row_9 :
    [0x90, 0x91, 0x92, 0x93, 0x94, 0x95, 0x96, 0x97, 0x98, 0x99, 0x9A, 0x9B, 0x9C, 0x9D, 0x9E, 0x9F].map
      (cell · false) =
    [some "SUB A,B", some "SUB A,C", some "SUB A,D", some "SUB A,E",
      some "SUB A,H", some "SUB A,L", some "SUB A,(HL)", some "SUB A,A",
      some "SBC A,B", some "SBC A,C", some "SBC A,D", some "SBC A,E",
      some "SBC A,H", some "SBC A,L", some "SBC A,(HL)", some "SBC A,A"] := by rfl
theorem test_map_plain_row_A :
    [0xA0, 0xA1, 0xA2, 0xA3, 0xA4, 0xA5, 0xA6, 0xA7, 0xA8, 0xA9, 0xAA, 0xAB, 0xAC, 0xAD, 0xAE, 0xAF].map
      (cell · false) =
    [some "AND A,B", some "AND A,C", some "AND A,D", some "AND A,E",
      some "AND A,H", some "AND A,L", some "AND A,(HL)", some "AND A,A",
      some "XOR A,B", some "XOR A,C", some "XOR A,D", some "XOR A,E",
      some "XOR A,H", some "XOR A,L", some "XOR A,(HL)", some "XOR A,A"] := by rfl
theorem test_map_plain_row_B :
    [0xB0, 0xB1, 0xB2, 0xB3, 0xB4, 0xB5, 0xB6, 0xB7, 0xB8, 0xB9, 0xBA, 0xBB, 0xBC, 0xBD, 0xBE, 0xBF].map
      (cell · false) =
    [some "OR A,B", some "OR A,C", some "OR A,D", some "OR A,E",
      some "OR A,H", some "OR A,L", some "OR A,(HL)", some "OR A,A",
      some "CP A,B", some "CP A,C", some "CP A,D", some "CP A,E",
      some "CP A,H", some "CP A,L", some "CP A,(HL)", some "CP A,A"] := by rfl
theorem test_map_plain_row_C :
    [0xC0, 0xC1, 0xC2, 0xC3, 0xC4, 0xC5, 0xC6, 0xC7, 0xC8, 0xC9, 0xCA, 0xCB, 0xCC, 0xCD, 0xCE, 0xCF].map
      (cell · false) =
    [some "RET NZ", some "POP BC", some "JP NZ,a16", some "JP a16",
      some "CALL NZ,a16", some "PUSH BC", some "ADD A,n8", some "RST $00",
      some "RET Z", some "RET", some "JP Z,a16", some "PREFIX CB",
      some "CALL Z,a16", some "CALL a16", some "ADC A,n8", some "RST $08"] := by rfl
theorem test_map_plain_row_D :
    [0xD0, 0xD1, 0xD2, 0xD3, 0xD4, 0xD5, 0xD6, 0xD7, 0xD8, 0xD9, 0xDA, 0xDB, 0xDC, 0xDD, 0xDE, 0xDF].map
      (cell · false) =
    [some "RET NC", some "POP DE", some "JP NC,a16", none,
      some "CALL NC,a16", some "PUSH DE", some "SUB A,n8", some "RST $10",
      some "RET C", some "RETI", some "JP C,a16", none,
      some "CALL C,a16", none, some "SBC A,n8", some "RST $18"] := by rfl
theorem test_map_plain_row_E :
    [0xE0, 0xE1, 0xE2, 0xE3, 0xE4, 0xE5, 0xE6, 0xE7, 0xE8, 0xE9, 0xEA, 0xEB, 0xEC, 0xED, 0xEE, 0xEF].map
      (cell · false) =
    [some "LDH (a8),A", some "POP HL", some "LD (C),A", none,
      none, some "PUSH HL", some "AND A,n8", some "RST $20",
      some "ADD SP,e8", some "JP HL", some "LD (a16),A", none,
      none, none, some "XOR A,n8", some "RST $28"] := by rfl
theorem test_map_plain_row_F :
    [0xF0, 0xF1, 0xF2, 0xF3, 0xF4, 0xF5, 0xF6, 0xF7, 0xF8, 0xF9, 0xFA, 0xFB, 0xFC, 0xFD, 0xFE, 0xFF].map
      (cell · false) =
    [some "LDH A,(a8)", some "POP AF", some "LD A,(C)", some "DI",
      none, some "PUSH AF", some "OR A,n8", some "RST $30",
      some "LD HL,SP+e8", some "LD SP,HL", some "LD A,(a16)", some "EI",
      none, none, some "CP A,n8", some "RST $38"] := by rfl
theorem test_map_cb_row_0 :
    [0x00, 0x01, 0x02, 0x03, 0x04, 0x05, 0x06, 0x07, 0x08, 0x09, 0x0A, 0x0B, 0x0C, 0x0D, 0x0E, 0x0F].map
      (cell · true) =
    [some "RLC B", some "RLC C", some "RLC D", some "RLC E",
      some "RLC H", some "RLC L", some "RLC (HL)", some "RLC A",
      some "RRC B", some "RRC C", some "RRC D", some "RRC E",
      some "RRC H", some "RRC L", some "RRC (HL)", some "RRC A"] := by rfl
theorem test_map_cb_row_1 :
    [0x10, 0x11, 0x12, 0x13, 0x14, 0x15, 0x16, 0x17, 0x18, 0x19, 0x1A, 0x1B, 0x1C, 0x1D, 0x1E, 0x1F].map
      (cell · true) =
    [some "RL B", some "RL C", some "RL D", some "RL E",
      some "RL H", some "RL L", some "RL (HL)", some "RL A",
      some "RR B", some "RR C", some "RR D", some "RR E",
      some "RR H", some "RR L", some "RR (HL)", some "RR A"] := by rfl
theorem test_map_cb_row_2 :
    [0x20, 0x21, 0x22, 0x23, 0x24, 0x25, 0x26, 0x27, 0x28, 0x29, 0x2A, 0x2B, 0x2C, 0x2D, 0x2E, 0x2F].map
      (cell · true) =
    [some "SLA B", some "SLA C", some "SLA D", some "SLA E",
      some "SLA H", some "SLA L", some "SLA (HL)", some "SLA A",
      some "SRA B", some "SRA C", some "SRA D", some "SRA E",
      some "SRA H", some "SRA L", some "SRA (HL)", some "SRA A"] := by rfl
theorem test_map_cb_row_3 :
    [0x30, 0x31, 0x32, 0x33, 0x34, 0x35, 0x36, 0x37, 0x38, 0x39, 0x3A, 0x3B, 0x3C, 0x3D, 0x3E, 0x3F].map
      (cell · true) =
    [some "SWAP B", some "SWAP C", some "SWAP D", some "SWAP E",
      some "SWAP H", some "SWAP L", some "SWAP (HL)", some "SWAP A",
      some "SRL B", some "SRL C", some "SRL D", some "SRL E",
      some "SRL H", some "SRL L", some "SRL (HL)", some "SRL A"] := by rfl
theorem test_map_cb_row_7 :
    [0x70, 0x71, 0x72, 0x73, 0x74, 0x75, 0x76, 0x77, 0x78, 0x79, 0x7A, 0x7B, 0x7C, 0x7D, 0x7E, 0x7F].map
      (cell · true) =
    [some "BIT 6,B", some "BIT 6,C", some "BIT 6,D", some "BIT 6,E",
      some "BIT 6,H", some "BIT 6,L", some "BIT 6,(HL)", some "BIT 6,A",
      some "BIT 7,B", some "BIT 7,C", some "BIT 7,D", some "BIT 7,E",
      some "BIT 7,H", some "BIT 7,L", some "BIT 7,(HL)", some "BIT 7,A"] := by rfl
theorem test_map_cb_row_A :
    [0xA0, 0xA1, 0xA2, 0xA3, 0xA4, 0xA5, 0xA6, 0xA7, 0xA8, 0xA9, 0xAA, 0xAB, 0xAC, 0xAD, 0xAE, 0xAF].map
      (cell · true) =
    [some "RES 4,B", some "RES 4,C", some "RES 4,D", some "RES 4,E",
      some "RES 4,H", some "RES 4,L", some "RES 4,(HL)", some "RES 4,A",
      some "RES 5,B", some "RES 5,C", some "RES 5,D", some "RES 5,E",
      some "RES 5,H", some "RES 5,L", some "RES 5,(HL)", some "RES 5,A"] := by rfl
theorem test_map_cb_row_F :
    [0xF0, 0xF1, 0xF2, 0xF3, 0xF4, 0xF5, 0xF6, 0xF7, 0xF8, 0xF9, 0xFA, 0xFB, 0xFC, 0xFD, 0xFE, 0xFF].map
      (cell · true) =
    [some "SET 6,B", some "SET 6,C", some "SET 6,D", some "SET 6,E",
      some "SET 6,H", some "SET 6,L", some "SET 6,(HL)", some "SET 6,A",
      some "SET 7,B", some "SET 7,C", some "SET 7,D", some "SET 7,E",
      some "SET 7,H", some "SET 7,L", some "SET 7,(HL)", some "SET 7,A"] := by rfl

/-- Every other spelling is one of a spelling of the map, and a short accumulator spelling is the long one without
its "A," (R111). -/
theorem test_other_spellings_are_of_the_map :
    (otherSpellings.all fun x => plainTable.any fun i => (i.bind Instr.spelling) == some x.2) = true := by decide +kernel
theorem test_short_spelling : shortAluSpelling .sub (.reg .b) = "SUB B" ∧ shortAluSpelling .cp .n8 = "CP n8" := by decide

/-- JR at 0x0150 to 0x014D has the operand 0xFB, and 0x80 and 0x7F are the ends of its reach (vectors CF-08, CF-09). -/
theorem test_jr_operand :
    jrOperand 0x0150 0x014D = 0xFB ∧ jrOperand 0x0010 0xFF92 = 0x80 ∧ jrReaches 0x0010 0xFF92 = true ∧
    jrReaches 0x0010 0xFF91 = false ∧ jrReaches 0x0010 0x0091 = true ∧ jrReaches 0x0010 0x0092 = false := by decide

/-! ## Single steps, from the vectors of 95_test_vectors.md part 2 -/

/-- What `view` shows of the state one step after `s`, with `cells` and then the instruction's bytes in memory. -/
def stepView {α : Type} (s : State) (cells : List (Word × Byte)) (code : List Byte) (view : State → α) : Option α :=
  match step ((s.writeRam cells).writeBytes s.pc code) with
  | .next t => some (view t)
  | .fault _ => none
  | .refused _ => none

/-- A8-01: ADD A,B. -/
theorem test_addAB_a8_01 :
    stepView { State.reset with a := 0x3A, b := 0xC6, pc := 0x0100 } [] [0x80]
      (fun t => (t.a, flagsToByte t.f, t.pc)) =
    some (0x00, 0xB0, 0x0101) := by decide

/-- A8-02: ADD A,B. -/
theorem test_addAB_a8_02 :
    stepView { State.reset with a := 0x0F, b := 0x01, pc := 0x0100 } [] [0x80]
      (fun t => (t.a, flagsToByte t.f, t.pc)) =
    some (0x10, 0x20, 0x0101) := by decide

/-- A8-07: ADC A,E. -/
theorem test_adcAE_a8_07 :
    stepView { State.reset with a := 0xE1, e := 0x0F, f := byteToFlags 0x10, pc := 0x0100 } [] [0x8B]
      (fun t => (t.a, flagsToByte t.f, t.pc)) =
    some (0xF1, 0x20, 0x0101) := by decide

/-- A8-08: ADC A,n8. -/
theorem test_adcAN8_a8_08 :
    stepView { State.reset with a := 0xE1, f := byteToFlags 0x10, pc := 0x0100 } [] [0xCE, 0x3B]
      (fun t => (t.a, flagsToByte t.f, t.pc)) =
    some (0x1D, 0x10, 0x0102) := by decide

/-- A8-12: SUB A,B. -/
theorem test_subAB_a8_12 :
    stepView { State.reset with a := 0x3E, b := 0x3E, pc := 0x0100 } [] [0x90]
      (fun t => (t.a, flagsToByte t.f, t.pc)) =
    some (0x00, 0xC0, 0x0101) := by decide

/-- A8-13: SUB A,B. -/
theorem test_subAB_a8_13 :
    stepView { State.reset with a := 0x3E, b := 0x0F, pc := 0x0100 } [] [0x90]
      (fun t => (t.a, flagsToByte t.f, t.pc)) =
    some (0x2F, 0x60, 0x0101) := by decide

/-- A8-17: SBC A,H. -/
theorem test_sbcAH_a8_17 :
    stepView { State.reset with a := 0x3B, h := 0x2A, f := byteToFlags 0x10, pc := 0x0100 } [] [0x9C]
      (fun t => (t.a, flagsToByte t.f, t.pc)) =
    some (0x10, 0x40, 0x0101) := by decide

/-- A8-18: SBC A,n8. -/
theorem test_sbcAN8_a8_18 :
    stepView { State.reset with a := 0x3B, f := byteToFlags 0x10, pc := 0x0100 } [] [0xDE, 0x3A]
      (fun t => (t.a, flagsToByte t.f, t.pc)) =
    some (0x00, 0xC0, 0x0102) := by decide

/-- A8-22: AND A,L. -/
theorem test_andAL_a8_22 :
    stepView { State.reset with a := 0x5A, l := 0x3F, f := byteToFlags 0x10, pc := 0x0100 } [] [0xA5]
      (fun t => (t.a, flagsToByte t.f, t.pc)) =
    some (0x1A, 0x20, 0x0101) := by decide

/-- A8-23: AND A,n8. -/
theorem test_andAN8_a8_23 :
    stepView { State.reset with a := 0xFF, pc := 0x0100 } [] [0xE6, 0x00]
      (fun t => (t.a, flagsToByte t.f, t.pc)) =
    some (0x00, 0xA0, 0x0102) := by decide

/-- A8-24: XOR A,A. -/
theorem test_xorAA_a8_24 :
    stepView { State.reset with a := 0xFF, f := byteToFlags 0x70, pc := 0x0100 } [] [0xAF]
      (fun t => (t.a, flagsToByte t.f, t.pc)) =
    some (0x00, 0x80, 0x0101) := by decide

/-- A8-25: XOR A,n8. -/
theorem test_xorAN8_a8_25 :
    stepView { State.reset with a := 0xFF, pc := 0x0100 } [] [0xEE, 0x0F]
      (fun t => (t.a, flagsToByte t.f, t.pc)) =
    some (0xF0, 0x00, 0x0102) := by decide

/-- A8-26: OR A,A. -/
theorem test_orAA_a8_26 :
    stepView { State.reset with a := 0x00, f := byteToFlags 0x70, pc := 0x0100 } [] [0xB7]
      (fun t => (flagsToByte t.f, t.pc)) =
    some (0x80, 0x0101) := by decide

/-- A8-27: OR A,(HL). -/
theorem test_orAIndHl_a8_27 :
    stepView { State.reset with a := 0x5A, h := 0xC0, l := 0x00, pc := 0x0100 } [(0xC000, 0x0F)] [0xB6]
      (fun t => (t.a, flagsToByte t.f, t.pc)) =
    some (0x5F, 0x00, 0x0101) := by decide

/-- A8-28: CP A,B. -/
theorem test_cpAB_a8_28 :
    stepView { State.reset with a := 0x3C, b := 0x2F, pc := 0x0100 } [] [0xB8]
      (fun t => (flagsToByte t.f, t.pc)) =
    some (0x60, 0x0101) := by decide

/-- A8-29: CP A,n8. -/
theorem test_cpAN8_a8_29 :
    stepView { State.reset with a := 0x3C, pc := 0x0100 } [] [0xFE, 0x3C]
      (fun t => (flagsToByte t.f, t.pc)) =
    some (0xC0, 0x0102) := by decide

/-- A8-32: INC A. -/
theorem test_incA_a8_32 :
    stepView { State.reset with a := 0xFF, f := byteToFlags 0x10, pc := 0x0100 } [] [0x3C]
      (fun t => (t.a, flagsToByte t.f, t.pc)) =
    some (0x00, 0xB0, 0x0101) := by decide

/-- A8-33: INC B. -/
theorem test_incB_a8_33 :
    stepView { State.reset with b := 0x0F, f := byteToFlags 0xC0, pc := 0x0100 } [] [0x04]
      (fun t => (t.b, flagsToByte t.f, t.pc)) =
    some (0x10, 0x20, 0x0101) := by decide

/-- A8-35: DEC L. -/
theorem test_decL_a8_35 :
    stepView { State.reset with l := 0x01, pc := 0x0100 } [] [0x2D]
      (fun t => (t.l, flagsToByte t.f, t.pc)) =
    some (0x00, 0xC0, 0x0101) := by decide

/-- A8-36: DEC A. -/
theorem test_decA_a8_36 :
    stepView { State.reset with a := 0x00, f := byteToFlags 0x10, pc := 0x0100 } [] [0x3D]
      (fun t => (t.a, flagsToByte t.f, t.pc)) =
    some (0xFF, 0x70, 0x0101) := by decide

/-- A8-39: DAA. -/
theorem test_daa_a8_39 :
    stepView { State.reset with a := 0x7D, pc := 0x0100 } [] [0x27]
      (fun t => (t.a, flagsToByte t.f, t.pc)) =
    some (0x83, 0x00, 0x0101) := by decide

/-- A8-40: DAA. -/
theorem test_daa_a8_40 :
    stepView { State.reset with a := 0x9A, pc := 0x0100 } [] [0x27]
      (fun t => (t.a, flagsToByte t.f, t.pc)) =
    some (0x00, 0x90, 0x0101) := by decide

/-- A8-45: CPL. -/
theorem test_cpl_a8_45 :
    stepView { State.reset with a := 0x35, pc := 0x0100 } [] [0x2F]
      (fun t => (t.a, flagsToByte t.f, t.pc)) =
    some (0xCA, 0x60, 0x0101) := by decide

/-- A8-46: CPL. -/
theorem test_cpl_a8_46 :
    stepView { State.reset with a := 0xFF, f := byteToFlags 0x90, pc := 0x0100 } [] [0x2F]
      (fun t => (t.a, flagsToByte t.f, t.pc)) =
    some (0x00, 0xF0, 0x0101) := by decide

/-- A8-47: SCF. -/
theorem test_scf_a8_47 :
    stepView { State.reset with f := byteToFlags 0xE0, pc := 0x0100 } [] [0x37]
      (fun t => (flagsToByte t.f, t.pc)) =
    some (0x90, 0x0101) := by decide

/-- A8-48: CCF. -/
theorem test_ccf_a8_48 :
    stepView { State.reset with f := byteToFlags 0x70, pc := 0x0100 } [] [0x3F]
      (fun t => (flagsToByte t.f, t.pc)) =
    some (0x00, 0x0101) := by decide

/-- A8-49: CCF. -/
theorem test_ccf_a8_49 :
    stepView { State.reset with f := byteToFlags 0x80, pc := 0x0100 } [] [0x3F]
      (fun t => (flagsToByte t.f, t.pc)) =
    some (0x90, 0x0101) := by decide

/-- A16-01: ADD HL,BC. -/
theorem test_addHlBc_a16_01 :
    stepView { State.reset with h := 0x0F, l := 0xFF, b := 0x00, c := 0x01, pc := 0x0100 } [] [0x09]
      (fun t => (t.h, t.l, flagsToByte t.f, t.pc)) =
    some (0x10, 0x00, 0x20, 0x0101) := by decide

/-- A16-02: ADD HL,HL. -/
theorem test_addHlHl_a16_02 :
    stepView { State.reset with h := 0x80, l := 0x00, f := byteToFlags 0x80, pc := 0x0100 } [] [0x29]
      (fun t => (t.h, flagsToByte t.f, t.pc)) =
    some (0x00, 0x90, 0x0101) := by decide

/-- A16-06: INC BC. -/
theorem test_incBc_a16_06 :
    stepView { State.reset with b := 0xFF, c := 0xFF, f := byteToFlags 0xF0, pc := 0x0100 } [] [0x03]
      (fun t => (t.b, t.c, flagsToByte t.f, t.pc)) =
    some (0x00, 0x00, 0xF0, 0x0101) := by decide

/-- A16-07: INC HL. -/
theorem test_incHl_a16_07 :
    stepView { State.reset with h := 0x00, l := 0xFF, pc := 0x0100 } [] [0x23]
      (fun t => (t.h, t.l, flagsToByte t.f, t.pc)) =
    some (0x01, 0x00, 0x00, 0x0101) := by decide

/-- A16-08: DEC SP. -/
theorem test_decSp_a16_08 :
    stepView { State.reset with sp := 0x0000, pc := 0x0100 } [] [0x3B]
      (fun t => (flagsToByte t.f, t.sp, t.pc)) =
    some (0x00, 0xFFFF, 0x0101) := by decide

/-- A16-09: DEC DE. -/
theorem test_decDe_a16_09 :
    stepView { State.reset with d := 0x01, e := 0x00, f := byteToFlags 0x80, pc := 0x0100 } [] [0x1B]
      (fun t => (t.d, t.e, flagsToByte t.f, t.pc)) =
    some (0x00, 0xFF, 0x80, 0x0101) := by decide

/-- A16-10: ADD SP,e8. -/
theorem test_addSpE8_a16_10 :
    stepView { State.reset with sp := 0xFFF8, f := byteToFlags 0xC0, pc := 0x0100 } [] [0xE8, 0x08]
      (fun t => (flagsToByte t.f, t.sp, t.pc)) =
    some (0x30, 0x0000, 0x0102) := by decide

/-- A16-11: ADD SP,e8. -/
theorem test_addSpE8_a16_11 :
    stepView { State.reset with sp := 0x0000, pc := 0x0100 } [] [0xE8, 0xFF]
      (fun t => (flagsToByte t.f, t.sp, t.pc)) =
    some (0x00, 0xFFFF, 0x0102) := by decide

/-- A16-14: LD HL,SP+e8. -/
theorem test_ldHlSpE8_a16_14 :
    stepView { State.reset with sp := 0x0005, f := byteToFlags 0x80, pc := 0x0100 } [] [0xF8, 0xFE]
      (fun t => (t.l, flagsToByte t.f, t.pc)) =
    some (0x03, 0x30, 0x0102) := by decide

/-- A16-15: LD HL,SP+e8. -/
theorem test_ldHlSpE8_a16_15 :
    stepView { State.reset with sp := 0xD000, f := byteToFlags 0xF0, pc := 0x0100 } [] [0xF8, 0x00]
      (fun t => (t.h, flagsToByte t.f, t.pc)) =
    some (0xD0, 0x00, 0x0102) := by decide

/-- RS-01: RLCA. -/
theorem test_rlca_rs_01 :
    stepView { State.reset with a := 0x85, pc := 0x0100 } [] [0x07]
      (fun t => (t.a, flagsToByte t.f, t.pc)) =
    some (0x0B, 0x10, 0x0101) := by decide

/-- RS-02: RLCA. -/
theorem test_rlca_rs_02 :
    stepView { State.reset with a := 0x00, f := byteToFlags 0x80, pc := 0x0100 } [] [0x07]
      (fun t => (flagsToByte t.f, t.pc)) =
    some (0x00, 0x0101) := by decide

/-- RS-03: RRCA. -/
theorem test_rrca_rs_03 :
    stepView { State.reset with a := 0x3B, pc := 0x0100 } [] [0x0F]
      (fun t => (t.a, flagsToByte t.f, t.pc)) =
    some (0x9D, 0x10, 0x0101) := by decide

/-- RS-04: RLA. -/
theorem test_rla_rs_04 :
    stepView { State.reset with a := 0x95, f := byteToFlags 0x10, pc := 0x0100 } [] [0x17]
      (fun t => (t.a, flagsToByte t.f, t.pc)) =
    some (0x2B, 0x10, 0x0101) := by decide

/-- RS-05: RLA. -/
theorem test_rla_rs_05 :
    stepView { State.reset with a := 0x80, pc := 0x0100 } [] [0x17]
      (fun t => (t.a, flagsToByte t.f, t.pc)) =
    some (0x00, 0x10, 0x0101) := by decide

/-- RS-06: RRA. -/
theorem test_rra_rs_06 :
    stepView { State.reset with a := 0x81, pc := 0x0100 } [] [0x1F]
      (fun t => (t.a, flagsToByte t.f, t.pc)) =
    some (0x40, 0x10, 0x0101) := by decide

/-- RS-07: RRA. -/
theorem test_rra_rs_07 :
    stepView { State.reset with a := 0x01, f := byteToFlags 0x10, pc := 0x0100 } [] [0x1F]
      (fun t => (t.a, flagsToByte t.f, t.pc)) =
    some (0x80, 0x10, 0x0101) := by decide

/-- RS-08: RLC B. -/
theorem test_rlcR_rs_08 :
    stepView { State.reset with b := 0x85, pc := 0x0100 } [] [0xCB, 0x00]
      (fun t => (t.b, flagsToByte t.f, t.pc)) =
    some (0x0B, 0x10, 0x0102) := by decide

/-- RS-09: RLC A. -/
theorem test_rlcR_rs_09 :
    stepView { State.reset with a := 0x00, f := byteToFlags 0x10, pc := 0x0100 } [] [0xCB, 0x07]
      (fun t => (flagsToByte t.f, t.pc)) =
    some (0x80, 0x0102) := by decide

/-- RS-11: RRC C. -/
theorem test_rrcR_rs_11 :
    stepView { State.reset with c := 0x01, pc := 0x0100 } [] [0xCB, 0x09]
      (fun t => (t.c, flagsToByte t.f, t.pc)) =
    some (0x80, 0x10, 0x0102) := by decide

/-- RS-12: RL L. -/
theorem test_rlR_rs_12 :
    stepView { State.reset with l := 0x80, pc := 0x0100 } [] [0xCB, 0x15]
      (fun t => (t.l, flagsToByte t.f, t.pc)) =
    some (0x00, 0x90, 0x0102) := by decide

/-- RS-13: RL D. -/
theorem test_rlR_rs_13 :
    stepView { State.reset with d := 0x40, f := byteToFlags 0x10, pc := 0x0100 } [] [0xCB, 0x12]
      (fun t => (t.d, flagsToByte t.f, t.pc)) =
    some (0x81, 0x00, 0x0102) := by decide

/-- RS-14: RR A. -/
theorem test_rrR_rs_14 :
    stepView { State.reset with a := 0x01, pc := 0x0100 } [] [0xCB, 0x1F]
      (fun t => (t.a, flagsToByte t.f, t.pc)) =
    some (0x00, 0x90, 0x0102) := by decide

/-- RS-15: RR (HL). -/
theorem test_rrR_rs_15 :
    stepView { State.reset with h := 0xC0, l := 0x00, f := byteToFlags 0x10, pc := 0x0100 } [(0xC000, 0x8A)] [0xCB, 0x1E]
      (fun t => (flagsToByte t.f, t.pc, t.read 0xC000)) =
    some (0x00, 0x0102, 0xC5) := by decide

/-- RS-16: SLA D. -/
theorem test_slaR_rs_16 :
    stepView { State.reset with d := 0xFF, pc := 0x0100 } [] [0xCB, 0x22]
      (fun t => (t.d, flagsToByte t.f, t.pc)) =
    some (0xFE, 0x10, 0x0102) := by decide

/-- RS-17: SLA E. -/
theorem test_slaR_rs_17 :
    stepView { State.reset with e := 0x80, f := byteToFlags 0x10, pc := 0x0100 } [] [0xCB, 0x23]
      (fun t => (t.e, flagsToByte t.f, t.pc)) =
    some (0x00, 0x90, 0x0102) := by decide

/-- RS-18: SRA A. -/
theorem test_sraR_rs_18 :
    stepView { State.reset with a := 0x8A, pc := 0x0100 } [] [0xCB, 0x2F]
      (fun t => (t.a, flagsToByte t.f, t.pc)) =
    some (0xC5, 0x00, 0x0102) := by decide

/-- RS-19: SRA B. -/
theorem test_sraR_rs_19 :
    stepView { State.reset with b := 0x01, pc := 0x0100 } [] [0xCB, 0x28]
      (fun t => (t.b, flagsToByte t.f, t.pc)) =
    some (0x00, 0x90, 0x0102) := by decide

/-- RS-20: SWAP (HL). -/
theorem test_swapR_rs_20 :
    stepView { State.reset with h := 0xC0, l := 0x00, f := byteToFlags 0x10, pc := 0x0100 } [(0xC000, 0xF0)] [0xCB, 0x36]
      (fun t => (flagsToByte t.f, t.pc, t.read 0xC000)) =
    some (0x00, 0x0102, 0x0F) := by decide

/-- RS-21: SWAP A. -/
theorem test_swapR_rs_21 :
    stepView { State.reset with a := 0x00, f := byteToFlags 0x10, pc := 0x0100 } [] [0xCB, 0x37]
      (fun t => (flagsToByte t.f, t.pc)) =
    some (0x80, 0x0102) := by decide

/-- RS-22: SRL A. -/
theorem test_srlR_rs_22 :
    stepView { State.reset with a := 0x01, pc := 0x0100 } [] [0xCB, 0x3F]
      (fun t => (t.a, flagsToByte t.f, t.pc)) =
    some (0x00, 0x90, 0x0102) := by decide

/-- RS-23: SRL H. -/
theorem test_srlR_rs_23 :
    stepView { State.reset with h := 0xFF, pc := 0x0100 } [] [0xCB, 0x3C]
      (fun t => (t.h, flagsToByte t.f, t.pc)) =
    some (0x7F, 0x10, 0x0102) := by decide

/-- BT-01: BIT 7,H. -/
theorem test_bitBR_bt_01 :
    stepView { State.reset with h := 0x80, pc := 0x0100 } [] [0xCB, 0x7C]
      (fun t => (flagsToByte t.f, t.pc)) =
    some (0x20, 0x0102) := by decide

/-- BT-02: BIT 0,A. -/
theorem test_bitBR_bt_02 :
    stepView { State.reset with a := 0xFE, f := byteToFlags 0x10, pc := 0x0100 } [] [0xCB, 0x47]
      (fun t => (flagsToByte t.f, t.pc)) =
    some (0xB0, 0x0102) := by decide

/-- BT-04: RES 0,A. -/
theorem test_resBR_bt_04 :
    stepView { State.reset with a := 0xFF, f := byteToFlags 0xF0, pc := 0x0100 } [] [0xCB, 0x87]
      (fun t => (t.a, flagsToByte t.f, t.pc)) =
    some (0xFE, 0xF0, 0x0102) := by decide

/-- BT-05: RES 7,(HL). -/
theorem test_resBR_bt_05 :
    stepView { State.reset with h := 0xC0, l := 0x00, pc := 0x0100 } [(0xC000, 0x80)] [0xCB, 0xBE]
      (fun t => (flagsToByte t.f, t.pc, t.read 0xC000)) =
    some (0x00, 0x0102, 0x00) := by decide

/-- BT-06: SET 3,(HL). -/
theorem test_setBR_bt_06 :
    stepView { State.reset with h := 0xC0, l := 0x00, pc := 0x0100 } [(0xC000, 0x00)] [0xCB, 0xDE]
      (fun t => (flagsToByte t.f, t.pc, t.read 0xC000)) =
    some (0x00, 0x0102, 0x08) := by decide

/-- BT-07: SET 7,B. -/
theorem test_setBR_bt_07 :
    stepView { State.reset with b := 0x80, pc := 0x0100 } [] [0xCB, 0xF8]
      (fun t => (flagsToByte t.f, t.pc)) =
    some (0x00, 0x0102) := by decide

/-- CF-01: JP a16. -/
theorem test_jpA16_cf_01 :
    stepView { State.reset with pc := 0x0100 } [] [0xC3, 0x50, 0x01]
      (fun t => (flagsToByte t.f, t.pc)) =
    some (0x00, 0x0150) := by decide

/-- CF-02: JP Z,a16. -/
theorem test_jpZA16_cf_02 :
    stepView { State.reset with f := byteToFlags 0x80, pc := 0x0200 } [] [0xCA, 0x00, 0x03]
      (fun t => (flagsToByte t.f, t.pc)) =
    some (0x80, 0x0300) := by decide

/-- CF-03: JP Z,a16. -/
theorem test_jpZA16_cf_03 :
    stepView { State.reset with pc := 0x0200 } [] [0xCA, 0x00, 0x03]
      (fun t => (flagsToByte t.f, t.pc)) =
    some (0x00, 0x0203) := by decide

/-- CF-05: JP HL. -/
theorem test_jpHl_cf_05 :
    stepView { State.reset with h := 0x40, l := 0x00, pc := 0x0100 } [] [0xE9]
      (fun t => (flagsToByte t.f, t.pc)) =
    some (0x00, 0x4000) := by decide

/-- CF-06: JR e8. -/
theorem test_jrE8_cf_06 :
    stepView { State.reset with pc := 0x0100 } [] [0x18, 0xFE]
      (fun t => (flagsToByte t.f, t.pc)) =
    some (0x00, 0x0100) := by decide

/-- CF-07: JR e8. -/
theorem test_jrE8_cf_07 :
    stepView { State.reset with pc := 0xFFFE } [] [0x18, 0x05]
      (fun t => (flagsToByte t.f, t.pc)) =
    some (0x00, 0x0005) := by decide

/-- CF-09: JR NZ,e8. -/
theorem test_jrNzE8_cf_09 :
    stepView { State.reset with pc := 0x0150 } [] [0x20, 0xFB]
      (fun t => (flagsToByte t.f, t.pc)) =
    some (0x00, 0x014D) := by decide

/-- CF-10: JR NZ,e8. -/
theorem test_jrNzE8_cf_10 :
    stepView { State.reset with f := byteToFlags 0x80, pc := 0x0150 } [] [0x20, 0xFB]
      (fun t => (flagsToByte t.f, t.pc)) =
    some (0x80, 0x0152) := by decide

/-- CF-12: CALL a16. -/
theorem test_callA16_cf_12 :
    stepView { State.reset with sp := 0xFFFE, pc := 0x0200 } [] [0xCD, 0x00, 0x40]
      (fun t => (flagsToByte t.f, t.sp, t.pc, t.read 0xFFFC, t.read 0xFFFD)) =
    some (0x00, 0xFFFC, 0x4000, 0x03, 0x02) := by decide

/-- CF-13: CALL C,a16. -/
theorem test_callCA16_cf_13 :
    stepView { State.reset with sp := 0xD000, pc := 0x0300 } [] [0xDC, 0x00, 0x50]
      (fun t => (flagsToByte t.f, t.pc)) =
    some (0x00, 0x0303) := by decide

/-- CF-14: CALL NZ,a16. -/
theorem test_callNzA16_cf_14 :
    stepView { State.reset with sp := 0xD000, pc := 0x0300 } [] [0xC4, 0x00, 0x50]
      (fun t => (flagsToByte t.f, t.sp, t.pc, t.read 0xCFFE, t.read 0xCFFF)) =
    some (0x00, 0xCFFE, 0x5000, 0x03, 0x03) := by decide

/-- CF-15: CALL a16. -/
theorem test_callA16_cf_15 :
    stepView { State.reset with sp := 0x0001, pc := 0x0200 } [] [0xCD, 0x00, 0x40]
      (fun t => (flagsToByte t.f, t.sp, t.pc, t.read 0x0000, t.read 0xFFFF)) =
    some (0x00, 0xFFFF, 0x4000, 0x02, 0x03) := by decide

/-- CF-16: RET. -/
theorem test_ret_cf_16 :
    stepView { State.reset with sp := 0xFFFC, pc := 0x4000 } [(0xFFFC, 0x03), (0xFFFD, 0x02)] [0xC9]
      (fun t => (flagsToByte t.f, t.sp, t.pc)) =
    some (0x00, 0xFFFE, 0x0203) := by decide

/-- CF-17: RET NZ. -/
theorem test_retNz_cf_17 :
    stepView { State.reset with sp := 0xFFFC, f := byteToFlags 0x80, pc := 0x4005 } [(0xFFFC, 0x03), (0xFFFD, 0x02)] [0xC0]
      (fun t => (flagsToByte t.f, t.pc)) =
    some (0x80, 0x4006) := by decide

/-- CF-18: RET Z. -/
theorem test_retZ_cf_18 :
    stepView { State.reset with sp := 0xFFFC, f := byteToFlags 0x80, pc := 0x4005 } [(0xFFFC, 0x03), (0xFFFD, 0x02)] [0xC8]
      (fun t => (flagsToByte t.f, t.sp, t.pc)) =
    some (0x80, 0xFFFE, 0x0203) := by decide

/-- CF-19: RET. -/
theorem test_ret_cf_19 :
    stepView { State.reset with sp := 0xFFFF, pc := 0x4000 } [(0xFFFF, 0x34), (0x0000, 0x12)] [0xC9]
      (fun t => (flagsToByte t.f, t.sp, t.pc)) =
    some (0x00, 0x0001, 0x1234) := by decide

/-- CF-20: RETI. -/
theorem test_reti_cf_20 :
    stepView { State.reset with sp := 0xFFFC, ime := 0x0, pc := 0x4000 } [(0xFFFC, 0x03), (0xFFFD, 0x02)] [0xD9]
      (fun t => (flagsToByte t.f, t.sp, t.pc, t.ime, t.ei)) =
    some (0x00, 0xFFFE, 0x0203, 0x1, 0x0) := by decide

/-- CF-21: RST $08. -/
theorem test_rst08_cf_21 :
    stepView { State.reset with sp := 0xFFFE, pc := 0x1234 } [] [0xCF]
      (fun t => (flagsToByte t.f, t.sp, t.pc, t.read 0xFFFC, t.read 0xFFFD)) =
    some (0x00, 0xFFFC, 0x0008, 0x35, 0x12) := by decide

/-- CF-22: RST $38. -/
theorem test_rst38_cf_22 :
    stepView { State.reset with sp := 0xC000, pc := 0x0150 } [] [0xFF]
      (fun t => (flagsToByte t.f, t.sp, t.pc, t.read 0xBFFE, t.read 0xBFFF)) =
    some (0x00, 0xBFFE, 0x0038, 0x51, 0x01) := by decide

/-- CF-23: PUSH BC. -/
theorem test_pushBc_cf_23 :
    stepView { State.reset with b := 0x12, c := 0x34, sp := 0xFFFE, pc := 0x0100 } [] [0xC5]
      (fun t => (flagsToByte t.f, t.sp, t.pc, t.read 0xFFFC, t.read 0xFFFD)) =
    some (0x00, 0xFFFC, 0x0101, 0x34, 0x12) := by decide

/-- CF-24: PUSH AF. -/
theorem test_pushAf_cf_24 :
    stepView { State.reset with a := 0x12, f := byteToFlags 0x90, sp := 0xFFFE, pc := 0x0100 } [] [0xF5]
      (fun t => (flagsToByte t.f, t.sp, t.pc, t.read 0xFFFC, t.read 0xFFFD)) =
    some (0x90, 0xFFFC, 0x0101, 0x90, 0x12) := by decide

/-- CF-25: POP DE. -/
theorem test_popDe_cf_25 :
    stepView { State.reset with sp := 0xFFFC, pc := 0x0100 } [(0xFFFC, 0x34), (0xFFFD, 0x12)] [0xD1]
      (fun t => (t.d, t.e, flagsToByte t.f, t.sp, t.pc)) =
    some (0x12, 0x34, 0x00, 0xFFFE, 0x0101) := by decide

/-- CF-26: POP AF. -/
theorem test_popAf_cf_26 :
    stepView { State.reset with sp := 0xFFFC, pc := 0x0100 } [(0xFFFC, 0xFF), (0xFFFD, 0x80)] [0xF1]
      (fun t => (t.a, flagsToByte t.f, t.sp, t.pc)) =
    some (0x80, 0xF0, 0xFFFE, 0x0101) := by decide

/-- LD-01: LD D,B. -/
theorem test_ldDB_ld_01 :
    stepView { State.reset with b := 0x5A, pc := 0x0100 } [] [0x50]
      (fun t => (t.d, flagsToByte t.f, t.pc)) =
    some (0x5A, 0x00, 0x0101) := by decide

/-- LD-02: LD A,A. -/
theorem test_ldAA_ld_02 :
    stepView { State.reset with a := 0x11, f := byteToFlags 0x80, pc := 0x0100 } [] [0x7F]
      (fun t => (flagsToByte t.f, t.pc)) =
    some (0x80, 0x0101) := by decide

/-- LD-03: LD H,(HL). -/
theorem test_ldHIndHl_ld_03 :
    stepView { State.reset with h := 0xC0, l := 0x00, pc := 0x0100 } [(0xC000, 0x77)] [0x66]
      (fun t => (t.h, flagsToByte t.f, t.pc)) =
    some (0x77, 0x00, 0x0101) := by decide

/-- LD-04: LD (HL),H. -/
theorem test_ldIndHlH_ld_04 :
    stepView { State.reset with h := 0xC1, l := 0x23, pc := 0x0100 } [] [0x74]
      (fun t => (flagsToByte t.f, t.pc, t.read 0xC123)) =
    some (0x00, 0x0101, 0xC1) := by decide

/-- LD-05: LD A,n8. -/
theorem test_ldAN8_ld_05 :
    stepView { State.reset with pc := 0x0100 } [] [0x3E, 0x42]
      (fun t => (t.a, flagsToByte t.f, t.pc)) =
    some (0x42, 0x00, 0x0102) := by decide

/-- LD-06: LD (HL),n8. -/
theorem test_ldIndHlN8_ld_06 :
    stepView { State.reset with h := 0xC0, l := 0x00, pc := 0x0100 } [] [0x36, 0x99]
      (fun t => (flagsToByte t.f, t.pc, t.read 0xC000)) =
    some (0x00, 0x0102, 0x99) := by decide

/-- LD-07: LD (DE),A. -/
theorem test_ldIndDeA_ld_07 :
    stepView { State.reset with d := 0xD0, e := 0x00, a := 0x01, pc := 0x0100 } [] [0x12]
      (fun t => (flagsToByte t.f, t.pc, t.read 0xD000)) =
    some (0x00, 0x0101, 0x01) := by decide

/-- LD-08: LD A,(BC). -/
theorem test_ldAIndBc_ld_08 :
    stepView { State.reset with b := 0xC0, c := 0x10, pc := 0x0100 } [(0xC010, 0xAB)] [0x0A]
      (fun t => (t.a, flagsToByte t.f, t.pc)) =
    some (0xAB, 0x00, 0x0101) := by decide

/-- LD-09: LD (HL+),A. -/
theorem test_ldIndHliA_ld_09 :
    stepView { State.reset with h := 0xC0, l := 0x00, a := 0x42, pc := 0x0100 } [] [0x22]
      (fun t => (t.l, flagsToByte t.f, t.pc, t.read 0xC000)) =
    some (0x01, 0x00, 0x0101, 0x42) := by decide

/-- LD-10: LD A,(HL+). -/
theorem test_ldAIndHli_ld_10 :
    stepView { State.reset with h := 0xFF, l := 0xFF, pc := 0x0100 } [(0xFFFF, 0x5E)] [0x2A]
      (fun t => (t.a, t.h, t.l, flagsToByte t.f, t.pc)) =
    some (0x5E, 0x00, 0x00, 0x00, 0x0101) := by decide

/-- LD-11: LD (HL-),A. -/
theorem test_ldIndHldA_ld_11 :
    stepView { State.reset with h := 0x00, l := 0x00, a := 0x07, pc := 0x0200 } [] [0x32]
      (fun t => (t.h, t.l, flagsToByte t.f, t.pc, t.read 0x0000)) =
    some (0xFF, 0xFF, 0x00, 0x0201, 0x07) := by decide

/-- LD-12: LD A,(HL-). -/
theorem test_ldAIndHld_ld_12 :
    stepView { State.reset with h := 0xC0, l := 0x00, pc := 0x0100 } [(0xC000, 0x55)] [0x3A]
      (fun t => (t.a, t.h, t.l, flagsToByte t.f, t.pc)) =
    some (0x55, 0xBF, 0xFF, 0x00, 0x0101) := by decide

/-- LD-13: LD (a16),A. -/
theorem test_ldIndA16A_ld_13 :
    stepView { State.reset with a := 0x3C, pc := 0x0100 } [] [0xEA, 0x00, 0xC1]
      (fun t => (flagsToByte t.f, t.pc, t.read 0xC100)) =
    some (0x00, 0x0103, 0x3C) := by decide

/-- LD-14: LD A,(a16). -/
theorem test_ldAIndA16_ld_14 :
    stepView { State.reset with pc := 0x0100 } [(0xC100, 0x3C)] [0xFA, 0x00, 0xC1]
      (fun t => (t.a, flagsToByte t.f, t.pc)) =
    some (0x3C, 0x00, 0x0103) := by decide

/-- LD-15: LDH (a8),A. -/
theorem test_ldhIndA8A_ld_15 :
    stepView { State.reset with a := 0x91, pc := 0x0100 } [] [0xE0, 0x40]
      (fun t => (flagsToByte t.f, t.pc, t.read 0xFF40)) =
    some (0x00, 0x0102, 0x91) := by decide

/-- LD-16: LDH A,(a8). -/
theorem test_ldhAIndA8_ld_16 :
    stepView { State.reset with pc := 0x0100 } [(0xFFFF, 0x1F)] [0xF0, 0xFF]
      (fun t => (t.a, flagsToByte t.f, t.pc)) =
    some (0x1F, 0x00, 0x0102) := by decide

/-- LD-17: LD (C),A. -/
theorem test_ldIndCA_ld_17 :
    stepView { State.reset with c := 0x10, a := 0x80, pc := 0x0100 } [] [0xE2]
      (fun t => (flagsToByte t.f, t.pc, t.read 0xFF10)) =
    some (0x00, 0x0101, 0x80) := by decide

/-- LD-18: LD A,(C). -/
theorem test_ldAIndC_ld_18 :
    stepView { State.reset with c := 0xFF, pc := 0x0100 } [(0xFFFF, 0x1F)] [0xF2]
      (fun t => (t.a, flagsToByte t.f, t.pc)) =
    some (0x1F, 0x00, 0x0101) := by decide

/-- LD-19: LD HL,n16. -/
theorem test_ldHlN16_ld_19 :
    stepView { State.reset with pc := 0x0100 } [] [0x21, 0x34, 0x12]
      (fun t => (t.h, t.l, flagsToByte t.f, t.pc)) =
    some (0x12, 0x34, 0x00, 0x0103) := by decide

/-- LD-20: LD SP,n16. -/
theorem test_ldSpN16_ld_20 :
    stepView { State.reset with pc := 0x0100 } [] [0x31, 0xFE, 0xFF]
      (fun t => (flagsToByte t.f, t.sp, t.pc)) =
    some (0x00, 0xFFFE, 0x0103) := by decide

/-- LD-22: LD (a16),SP. -/
theorem test_ldIndA16Sp_ld_22 :
    stepView { State.reset with sp := 0xFFF8, pc := 0x0100 } [] [0x08, 0x00, 0xC1]
      (fun t => (flagsToByte t.f, t.pc, t.read 0xC100, t.read 0xC101)) =
    some (0x00, 0x0103, 0xF8, 0xFF) := by decide

/-- LD-23: LD (a16),SP. -/
theorem test_ldIndA16Sp_ld_23 :
    stepView { State.reset with sp := 0x1234, pc := 0x0100 } [] [0x08, 0xFF, 0xFF]
      (fun t => (flagsToByte t.f, t.pc, t.read 0x0000, t.read 0xFFFF)) =
    some (0x00, 0x0103, 0x12, 0x34) := by decide

/-- LD-24: LD SP,HL. -/
theorem test_ldSpHl_ld_24 :
    stepView { State.reset with h := 0xDF, l := 0xFF, pc := 0x0100 } [] [0xF9]
      (fun t => (flagsToByte t.f, t.sp, t.pc)) =
    some (0x00, 0xDFFF, 0x0101) := by decide

/-- MI-01: NOP. -/
theorem test_nop_mi_01 :
    stepView { State.reset with pc := 0x0100 } [] [0x00]
      (fun t => (flagsToByte t.f, t.pc)) =
    some (0x00, 0x0101) := by decide

/-- MI-02: NOP. -/
theorem test_nop_mi_02 :
    stepView { State.reset with pc := 0xFFFF } [] [0x00]
      (fun t => (flagsToByte t.f, t.pc)) =
    some (0x00, 0x0000) := by decide

/-- MI-03: HALT. -/
theorem test_halt_mi_03 :
    stepView { State.reset with pc := 0x0150 } [] [0x76]
      (fun t => (flagsToByte t.f, t.pc, t.status)) =
    some (0x00, 0x0151, .halted) := by decide

/-- MI-04: HALT. -/
theorem test_halt_mi_04 :
    stepView { State.reset with pc := 0x0150, haltMode := .nop } [] [0x76]
      (fun t => (flagsToByte t.f, t.pc)) =
    some (0x00, 0x0151) := by decide

/-- MI-05: STOP. -/
theorem test_stop_mi_05 :
    stepView { State.reset with pc := 0x0200 } [] [0x10, 0x00]
      (fun t => (flagsToByte t.f, t.pc, t.status)) =
    some (0x00, 0x0202, .stopped) := by decide

/-- MI-06: STOP. -/
theorem test_stop_mi_06 :
    stepView { State.reset with pc := 0x0200, haltMode := .nop } [] [0x10, 0xAA]
      (fun t => (flagsToByte t.f, t.pc)) =
    some (0x00, 0x0202) := by decide

/-- MI-07: DI. -/
theorem test_di_mi_07 :
    stepView { State.reset with ime := 0x1, ei := 0x0, pc := 0x0100 } [] [0xF3]
      (fun t => (flagsToByte t.f, t.pc, t.ime, t.ei)) =
    some (0x00, 0x0101, 0x0, 0x0) := by decide

/-- MI-08: EI. -/
theorem test_ei_mi_08 :
    stepView { State.reset with ime := 0x0, ei := 0x0, pc := 0x0100 } [] [0xFB]
      (fun t => (flagsToByte t.f, t.pc, t.ime, t.ei)) =
    some (0x00, 0x0101, 0x0, 0x1) := by decide

/-- DC-01: (0xD3, no entry). -/
theorem test_noTableEntry_dc_01 :
    stepView { State.reset with a := 0x12, f := byteToFlags 0x80, pc := 0x0100 } [] [0xD3]
      (fun t => (flagsToByte t.f, t.pc, t.status)) =
    some (0x80, 0x0100, .faulted ⟨0x0100, 0xD3⟩) := by decide

/-- DC-02: (0xFD, no entry). -/
theorem test_noTableEntry_dc_02 :
    stepView { State.reset with pc := 0x8000 } [] [0xFD]
      (fun t => (flagsToByte t.f, t.pc, t.status)) =
    some (0x00, 0x8000, .faulted ⟨0x8000, 0xFD⟩) := by decide

/-- DC-04: SWAP A (CB 37). -/
theorem test_swapR_dc_04 :
    stepView { State.reset with a := 0xF1, pc := 0x0100 } [] [0xCB, 0x37]
      (fun t => (t.a, flagsToByte t.f, t.pc)) =
    some (0x1F, 0x00, 0x0102) := by decide

/-- DC-05: JP a16 across 0xFFFF. -/
theorem test_jpA16_dc_05 :
    stepView { State.reset with pc := 0xFFFE } [] [0xC3, 0x00, 0x20]
      (fun t => (flagsToByte t.f, t.pc)) =
    some (0x00, 0x2000) := by decide

/-- DC-06: CB prefix at 0xFFFF. -/
theorem test_bitBR_dc_06 :
    stepView { State.reset with a := 0x80, pc := 0xFFFF } [] [0xCB, 0x7F]
      (fun t => (flagsToByte t.f, t.pc)) =
    some (0x20, 0x0001) := by decide

/-! ## Witnesses: for each statement with hypotheses, a concrete state and operands that meet them -/

/-- A state with distinct registers and a memory with entries at both ends. -/
def demo : State :=
  { State.reset with
    a := 0x99, b := 0x12, c := 0x34, d := 0xC1, e := 0x00, h := 0xFF, l := 0xFF
    f := { z := true, n := false, h := true, c := false }
    sp := 0x0001, pc := 0xFFFE
    mem := [(0, 0x18), (1, 0x05), (0xFFFE, 0x34), (0xFFFF, 0x90)]
    ime := 7, ie := 8, ei := 9 }

/-- `demo` about to run one instruction at PC 0x0100. -/
def running (code : List Byte) : State := { demo with pc := 0x0100 }.writeBytes 0x0100 code

/-- A snapshot that `demo` matches, but for the low nibble `low` of its F. -/
def demoSnapshot (low : Byte) : Snapshot where
  pc := 0xFFFE
  sp := 0x0001
  a := 0x99
  b := 0x12
  c := 0x34
  d := 0xC1
  e := 0x00
  f := 0xA0 ||| low
  h := 0xFF
  l := 0xFF
  ime := 0
  ie := 0
  ei := 0
  ram := [(0, 0x18), (0xFFFF, 0x90)]

/-- A snapshot whose F has a nonzero low nibble, and one that matches. -/
theorem witness_FlagsByteViewRoundTrips : demo.matchesSnapshot (demoSnapshot 0) = true := by decide

theorem witness_EveryAddressIsPlainMemory :
    Inv demo ∧ (0xFFFF : Word) ≠ 0 ∧ demo.read 0xFFFF = 0x90 ∧ demo.read 0x8000 = 0 := by
  unfold Machine.Inv; decide

theorem witness_EqualBytesMeanEqualMemories :
    ∃ m m' : Memory, m.wf = true ∧ m'.wf = true ∧ m ≠ [] ∧
      ∀ addr : Word, Memory.read addr.toNat m = Memory.read addr.toNat m' :=
  ⟨demo.mem, demo.mem, by decide, by decide, by decide, fun _ => rfl⟩

/-- INC (HL) at HL 0xFFFF: a step that stores. -/
theorem witness_StepKeepsMemoryCanonical :
    Inv (running [0x34]) ∧ ∃ t, step (running [0x34]) = .next t ∧ t.read 0xFFFF = 0x91 := by
  refine ⟨by unfold Machine.Inv; decide, _, rfl, ?_⟩
  decide

/-- A snapshot that lists one address twice and both ends of memory. -/
theorem witness_SnapshotLoadSetsTheState :
    Inv demo ∧ ((demo.loadSnapshot { demoSnapshot 3 with ram := [(0, 1), (0xFFFF, 2), (0, 0)] }).read 0,
      (demo.loadSnapshot { demoSnapshot 3 with ram := [(0, 1), (0xFFFF, 2), (0, 0)] }).read 0xFFFF) = (0, 2) := by
  unfold Machine.Inv; decide

theorem witness_SnapshotCompareChecksTheListedState :
    (demoSnapshot 1).f &&& 0x0F ≠ 0 ∧ (demoSnapshot 0xF).f &&& 0x0F ≠ 0 := by decide

theorem witness_LaunchTakesInitMemAndSnapshot :
    demo.mem = { demo with a := 0, status := .halted }.mem ∧
    demo.haltMode = { demo with a := 0, status := .halted }.haltMode ∧
    demo ≠ { demo with a := 0, status := .halted } := by decide

/-- The first and the last of the eleven opcodes. -/
theorem witness_ElevenOpcodesHaveNoEntry :
    (running [0xD3]).status = .running ∧ decodeByte ((running [0xD3]).read (running [0xD3]).pc) false = none ∧
    (running [0xFD]).status = .running ∧ decodeByte ((running [0xFD]).read (running [0xFD]).pc) false = none := by decide

/-- LDH (a8),A with a one-byte immediate, CALL a16 with a two-byte one. -/
theorem witness_DecodeOfEncodeIsTheInstruction :
    WellFormed .ldhIndA8A = true ∧ Instr.ldhIndA8A.format.immediateBytes = 1 ∧
    (running [0xE0, 0xFF, 0x77]).fetchBytes = encode .ldhIndA8A 0x12FF ++ [0x77] ∧
    WellFormed .callA16 = true ∧ Instr.callA16.format.immediateBytes = 2 ∧
    (running [0xCD, 0x00, 0x40]).fetchBytes = encode .callA16 0x4000 ++ [] := by decide

theorem witness_DecodedBytesAreAnEncoding : decode [0xCD, 0x00, 0x40, 0x99] = .ok (.callA16, [0x99]) := by decide

/-- SWAP (HL), read at the CB byte 0x36, for both hypotheses. -/
theorem witness_EachTableEntryHasOneOpcode :
    decodeByte 0x36 true = some (.swapR .indHl) ∧ decodeByte 0x36 false = some .ldIndHlN8 := by decide

/-- RST 7 from `demo` goes to 0x0038. -/
theorem witness_OpcodeFieldsSelectTheOperands : ∃ t, exec (.rstOf 7) demo = .next t ∧ t.pc = 0x38 :=
  ⟨_, rfl, rfl⟩

theorem witness_FormatsLayOutTheBytes :
    WellFormed (.bitBR 7 .a) = true ∧ WellFormed (.rlcR .b) = true ∧
    (encode (.bitBR 7 .a) 0).head? = (encode (.rlcR .b) 0xFFFF).head? := by decide

/-- LD SP,HL transfers no control; the second clause is the row 0xDD. -/
theorem witness_LengthIsThePcAdvance :
    transfersControl .ldSpHl = false ∧ (∀ op, Instr.ldSpHl ≠ .noTableEntry op) ∧
    (∃ t, exec .ldSpHl demo = .next t) ∧ ∃ t, exec (.noTableEntry 0xDD) demo = .next t :=
  ⟨rfl, fun _ h => Instr.noConfusion h, ⟨_, rfl⟩, ⟨_, rfl⟩⟩

/-- A CB instruction at PC, an unused opcode at PC, a state that is not Running, and an instruction that
completes. -/
theorem witness_StepRunsTheDecodedInstruction :
    (running [0xCB, 0x36]).status = .running ∧
    decode (running [0xCB, 0x36]).fetchBytes = .ok (.swapR .indHl, [0x00]) ∧
    (∀ op, Instr.swapR .indHl ≠ .noTableEntry op) ∧
    (running [0xE3]).status = .running ∧
    decode (running [0xE3]).fetchBytes = .ok (.noTableEntry 0xE3, [0x00, 0x00]) ∧
    { demo with status := .halted }.status ≠ .running ∧ ∃ t, exec .daa demo = .next t :=
  ⟨by decide, by decide, fun _ h => Instr.noConfusion h, by decide, by decide,
    by decide, _, rfl⟩

/-- Steps that end Halted, Stopped, Faulted and Running, and the three statuses without a step. -/
theorem witness_RunStatusChangesOnlyAsStated :
    stepView demo [] [0x76] (fun t => t.status) = some .halted ∧
    stepView demo [] [0x10] (fun t => t.status) = some .stopped ∧
    stepView demo [] [0xED] (fun t => t.status) = some (.faulted ⟨0xFFFE, 0xED⟩) ∧
    stepView { demo with haltMode := .nop } [] [0x76] (fun t => t.status) = some .running ∧
    { demo with status := .halted }.status = .halted ∧ { demo with status := .stopped }.status = .stopped ∧
    { demo with status := .faulted ⟨0, 0xD3⟩ }.status = .faulted ⟨0, 0xD3⟩ := by decide

theorem witness_DecodeErrorIsPreciseAndPermanent :
    (running [0xD3]).status = .running ∧ (running [0xD3]).read (running [0xD3]).pc ∈ unusedOpcodes ∧
    { demo with status := .faulted ⟨0, 0xD3⟩ }.status = .faulted ⟨0, 0xD3⟩ := by decide

/-- EI pending before NOP, before an unused opcode, and before EI. -/
theorem witness_EiTakesEffectInTheNextStep :
    (running [0x00]).status = .running ∧ (running [0x00]).ei ≠ 0 ∧
    decodeEntry ((running [0x00]).read (running [0x00]).pc) ((running [0x00]).read ((running [0x00]).pc + 1))
      = some .nop ∧
    decodeEntry ((running [0xFD]).read (running [0xFD]).pc) ((running [0xFD]).read ((running [0xFD]).pc + 1))
      = none ∧
    stepView demo [] [0xFD] (fun t => (t.ime, t.ei)) = some (7, 9) ∧
    (running [0xFB]).read (running [0xFB]).pc = 0xFB := by decide

/-- Two states that differ in all three cells, and a step with no EI pending outside DI, EI and RETI. -/
theorem witness_SnapshotCellsNeverInfluenceExecution :
    AgreeButCells (running [0xFB]) { running [0xFB] with ime := 0, ie := 0xFF, ei := 0 } ∧
    { running [0xF1] with ei := 0 }.read 0x0100 ∉ ([0xF3, 0xFB, 0xD9] : List Byte) ∧
    ∃ t, step { running [0xF1] with ei := 0 } = .next t := by
  refine ⟨rfl, by decide, _, rfl⟩

theorem witness_EveryInstructionCompletes : demo.status = .running := rfl

/-- POP AF: SP and A are named, F is not an element of the frame. -/
theorem witness_OnlyTheNamedElementsAreWritten : ∃ t, exec .popAf demo = .next t ∧ t.a ≠ demo.a := by
  exact ⟨_, rfl, by decide⟩

/-- PUSH BC with SP 1 stores at 0x0000 and 0xFFFF. -/
theorem witness_OnlyTheNamedBytesAreStored :
    Inv demo ∧ storedBy .pushBc demo = [(0, 0x12), (0xFFFF, 0x34)] ∧ storedBy .nop demo = [] ∧
    ∃ t, exec .pushBc demo = .next t ∧ t.read 0 = 0x12 ∧ t.read 0xFFFF = 0x34 := by
  refine ⟨by unfold Machine.Inv; decide, by decide, rfl, _, rfl, ?_⟩
  decide

/-- INC reads no flag and keeps C: other flags before it than those of `demo`. -/
theorem witness_FlagsFollowTheWritersAndReadersTable :
    (∃ t, exec .incA demo = .next t) ∧ flagsReadBy .incA demo = ⟨false, false, false, false⟩ ∧
    (∃ t, exec .adcAB demo = .next t) ∧ flagsReadBy .adcAB demo = ⟨false, false, false, true⟩ :=
  ⟨⟨_, rfl⟩, rfl, ⟨_, rfl⟩, rfl⟩

theorem witness_DaaAdjustsAsStated : demo.f.n = false ∧ { demo with f := cplFlags demo.f }.f.n = true := by decide

/-- 99 and 99, and 0 and 1, as BCD. -/
theorem witness_DaaCorrectsBcdSumsAndDifferences :
    { demo with b := 0x99 }.a = bcd 99 ∧ operandValue (.reg .b) { demo with b := 0x99 } = bcd 99 ∧
    { demo with a := 0, b := 1 }.a = bcd 0 ∧ operandValue (.reg .b) { demo with a := 0, b := 1 } = bcd 1 := by decide

/-- A run that is final after one step, one that has faulted after one, and one that loops (JR to itself) with
HALT_MODE nop. -/
theorem witness_EveryRunIsFinalFaultedOrInfinite :
    (stateAfter 1 (running [0x76])).isFinal = true ∧ (stateAfter 1 (running [0xD3])).hasFaulted = true ∧
    (stateAfter 1 (running [0x10])).status ≠ .running ∧
    { running [0x18, 0xFE] with haltMode := .nop }.status = .running ∧
    { running [0x18, 0xFE] with haltMode := .nop }.haltMode = .nop := by decide

/-- The two ends of the reach of a JR at 0x0100, and a condition that holds. -/
theorem witness_JrToATargetInReachGoesThere :
    jrReaches (running [0x18, 0x7F]).pc 0x0181 = true ∧
    (running [0x18, 0x7F]).read ((running [0x18, 0x7F]).pc + 1) = jrOperand (running [0x18, 0x7F]).pc 0x0181 ∧
    jrReaches (running [0x18, 0x80]).pc 0x0082 = true ∧
    (running [0x18, 0x80]).read ((running [0x18, 0x80]).pc + 1) = jrOperand (running [0x18, 0x80]).pc 0x0082 ∧
    condHolds .z (running [0x18, 0x80]).f = true := by decide

/-- The conditions hold on one state and fail on another. -/
theorem witness_CallsPushTheReturnAddress :
    condHolds .z demo.f = true ∧ condHolds .nz demo.f = false ∧ condHolds .nc demo.f = true ∧
    condHolds .c demo.f = false ∧ condHolds .nz State.reset.f = true ∧ condHolds .z State.reset.f = false ∧
    condHolds .c (scfFlags demo.f) = true ∧ condHolds .nc (scfFlags demo.f) = false := by decide

theorem witness_PushThenPopRestoresPairAndSp : Inv demo ∧ demo.stkPair .af = 0x99A0 ∧ demo.sp = 1 := by
  unfold Machine.Inv; decide

theorem witness_NopHaltStopDiActAsStated :
    demo.haltMode = .terminal ∧ { demo with haltMode := .nop }.haltMode = .nop := by decide

end Sys2Proof.Tests
end

section
/-! PROOFS. The opcode table read by its bytes: an entry stands at its own opcode, and the empty cells are the eleven
bytes of 30_encoding.md R106. -/

namespace Sys2Proof

theorem plainTable_opcode : ∀ b : Byte, ∀ i ∈ plainTable.getD b.toNat none, i.opcodeBytes.head? = some b := by
  decide

theorem plainTable_eq_none_iff : ∀ b : Byte, plainTable.getD b.toNat none = none ↔ b ∈ unusedOpcodes := by
  decide

theorem plainTable_ne_noTableEntry : ∀ b : Byte, plainTable.getD b.toNat none ≠ some (.noTableEntry b) := by
  decide

theorem cbOf_opcode (op : CbOp) : (Instr.cbOf op).opcodeBytes.head? = some 0xCB := by
  cases op with
  | rot op x => cases op <;> rfl
  | bit n x => rfl
  | res n x => rfl
  | set n x => rfl

theorem cbOf_ne_noTableEntry (op : CbOp) (b : Byte) : Instr.cbOf op ≠ .noTableEntry b := by
  cases op with
  | rot op x => cases op <;> exact nofun
  | bit n x => exact nofun
  | res n x => exact nofun
  | set n x => exact nofun

theorem decodeEntry_cb (b1 : Byte) : decodeEntry 0xCB b1 = some (.cbOf (decodeCb b1)) := rfl

theorem decodeEntry_plain {b0 : Byte} (h : b0 ≠ 0xCB) (b1 : Byte) :
    decodeEntry b0 b1 = plainTable.getD b0.toNat none := if_neg h

/-- The first byte decoded is the opcode of what it decodes to. -/
theorem decodeEntry_opcode {b0 b1 : Byte} {i : Instr} (h : decodeEntry b0 b1 = some i) :
    i.opcodeBytes.head? = some b0 := by
  by_cases hcb : b0 = 0xCB
  · subst hcb
    rw [← Option.some.inj h]
    exact cbOf_opcode _
  · rw [decodeEntry_plain hcb] at h
    exact plainTable_opcode b0 i h

theorem decodeEntry_eq_none_iff (b0 b1 : Byte) : decodeEntry b0 b1 = none ↔ b0 ∈ unusedOpcodes := by
  by_cases hcb : b0 = 0xCB
  · subst hcb
    exact iff_of_false nofun (by decide)
  · rw [decodeEntry_plain hcb, plainTable_eq_none_iff]

theorem decodeEntry_ne_noTableEntry (b0 b1 op : Byte) : decodeEntry b0 b1 ≠ some (.noTableEntry op) := by
  intro h
  have hop : op = b0 := Option.some.inj (decodeEntry_opcode h)
  subst hop
  by_cases hcb : op = 0xCB
  · subst hcb
    exact cbOf_ne_noTableEntry _ _ (Option.some.inj h)
  · rw [decodeEntry_plain hcb] at h
    exact plainTable_ne_noTableEntry op h

end Sys2Proof
end

section
/-! PROOFS. What every instruction does to the cells ime, ie, ei, the status and HALT_MODE: all but six commute with
any replacement of them, and so neither read nor write them. -/

namespace Sys2Proof.Machine

/-! ## Updates of a result -/

/-- The result with `u` applied to its next state. -/
def mapNext (u : State → State) : Result → Result
  | .next t => .next (u t)
  | .fault r => .fault r
  | .refused r => .refused r

@[simp] theorem mapNext_next (u : State → State) (t : State) : mapNext u (.next t) = .next (u t) := rfl

theorem exec_prefixCb (s : State) : exec .prefixCb s = exec (.cbOf (decodeCb s.imm8)) s :=
  execCbOp_eq _ s

theorem exec_cbOf_completes (op : CbOp) (s : State) : ∃ t, exec (.cbOf op) s = .next t := by
  cases op with
  | rot op x => exact ⟨_, exec_rotOf op x s⟩
  | bit n x => exact ⟨_, rfl⟩
  | res n x => exact ⟨_, rfl⟩
  | set n x => exact ⟨_, rfl⟩

/-- Every instruction answers a next state. -/
theorem exec_completes (i : Instr) (s : State) : ∃ t, exec i s = .next t := by
  induction i using instr_families with
  | ld r r' => exact ⟨_, exec_ldOf r r' s⟩
  | ldIndHl r => exact ⟨_, exec_ldIndHlOf r s⟩
  | stIndHl r => exact ⟨_, exec_stIndHlOf r s⟩
  | ldN8 r => exact ⟨_, exec_ldN8Of r s⟩
  | stMem m => exact ⟨_, exec_stMemOf m s⟩
  | ldMem m => exact ⟨_, exec_ldMemOf m s⟩
  | ldN16 p => exact ⟨_, exec_ldN16Of p s⟩
  | incPair p => exact ⟨_, exec_incPairOf p s⟩
  | decPair p => exact ⟨_, exec_decPairOf p s⟩
  | addHl p => exact ⟨_, exec_addHlOf p s⟩
  | push p => exact ⟨_, exec_pushOf p s⟩
  | pop p => exact ⟨_, exec_popOf p s⟩
  | jpCc cc => exact ⟨_, exec_jpOf cc s⟩
  | jrCc cc => exact ⟨_, exec_jrOf cc s⟩
  | callCc cc => exact ⟨_, exec_callOf cc s⟩
  | retCc cc => exact ⟨_, exec_retOf cc s⟩
  | rst t => exact ⟨_, exec_rstOf t s⟩
  | inc x => exact ⟨_, exec_incOf x s⟩
  | dec x => exact ⟨_, exec_decOf x s⟩
  | alu op src => exact ⟨_, exec_aluOf op src s⟩
  | accRot op => exact ⟨_, exec_accRotOf op s⟩
  | rot op x => exact ⟨_, exec_rotOf op x s⟩
  | prefixCb => exact exec_prefixCb s ▸ exec_cbOf_completes _ s
  | _ => exact ⟨_, rfl⟩

/-! ## The control cells -/

/-- The three snapshot cells, the run status and HALT_MODE. -/
structure ControlCells where
  ime : Byte
  ie : Byte
  ei : Byte
  status : RunStatus
  haltMode : HaltMode

/-- The control cells of a state. -/
def State.control (s : State) : ControlCells := ⟨s.ime, s.ie, s.ei, s.status, s.haltMode⟩

/-- The state with other control cells. -/
def State.withControl (s : State) (c : ControlCells) : State :=
  { s with ime := c.ime, ie := c.ie, ei := c.ei, status := c.status, haltMode := c.haltMode }

/-- The instructions that read or write a control cell (44_control.md R250; 47_misc.md; 60_exceptions.md R371). -/
def usesControl : Instr → Bool
  | .halt | .stop | .di | .ei | .reti | .noTableEntry _ => true
  | _ => false

theorem usesControl_cases (i : Instr) :
    usesControl i = false ∨ i = .halt ∨ i = .stop ∨ i = .di ∨ i = .ei ∨ i = .reti ∨
      ∃ op, i = .noTableEntry op := by
  unfold usesControl
  split <;> simp

theorem exec_cbOf_withControl (op : CbOp) (s : State) (c : ControlCells) :
    exec (.cbOf op) (s.withControl c) = mapNext (·.withControl c) (exec (.cbOf op) s) := by
  cases op with
  | rot op x => cases op <;> cases x <;> rfl
  | bit n x => cases x <;> rfl
  | res n x => cases x <;> rfl
  | set n x => cases x <;> rfl

/-- An instruction that uses no control cell commutes with a replacement of them. -/
theorem exec_withControl {i : Instr} (hi : usesControl i = false) (s : State) (c : ControlCells) :
    exec i (s.withControl c) = mapNext (·.withControl c) (exec i s) := by
  induction i using instr_families with
  | ld r r' => cases r <;> cases r' <;> rfl
  | ldIndHl r => cases r <;> rfl
  | stIndHl r => cases r <;> rfl
  | ldN8 r => cases r <;> rfl
  | stMem m => cases m <;> rfl
  | ldMem m => cases m <;> rfl
  | ldN16 p => cases p <;> rfl
  | incPair p => cases p <;> rfl
  | decPair p => cases p <;> rfl
  | addHl p => cases p <;> rfl
  | push p => cases p <;> rfl
  | pop p => cases p <;> rfl
  | jpCc cc => simp only [exec_jpOf, jumpIf, mapNext_next, apply_ite (State.withControl · c)]; rfl
  | jrCc cc => simp only [exec_jrOf, jumpRelativeIf, mapNext_next, apply_ite (State.withControl · c)]; rfl
  | callCc cc => simp only [exec_callOf, callIf, mapNext_next, apply_ite (State.withControl · c)]; rfl
  | retCc cc => simp only [exec_retOf, returnIf, mapNext_next, apply_ite (State.withControl · c)]; rfl
  | rst t => simp only [exec_rstOf]; rfl
  | inc x => cases x <;> rfl
  | dec x => cases x <;> rfl
  | alu op src => rcases src with (_ | _) | _ | _ <;> cases op <;> rfl
  | accRot op => cases op <;> rfl
  | rot op x => exact exec_cbOf_withControl (.rot op x) s c
  | bit n x => exact exec_cbOf_withControl (.bit n x) s c
  | res n x => exact exec_cbOf_withControl (.res n x) s c
  | set n x => exact exec_cbOf_withControl (.set n x) s c
  | prefixCb => rw [exec_prefixCb, exec_prefixCb]; exact exec_cbOf_withControl _ s c
  | halt | stop | di | ei | reti | noTableEntry => cases hi
  | _ => rfl

/-- An instruction that uses no control cell keeps them all. -/
theorem exec_keeps_control {i : Instr} (hi : usesControl i = false) {s t : State} (h : exec i s = .next t) :
    t.control = s.control := by
  have hs := exec_withControl hi s s.control
  rw [show s.withControl s.control = s from rfl, h, mapNext_next, Host.Outcome.next.injEq] at hs
  rw [hs]
  rfl

/-! ## HALT and STOP -/

theorem enterPowerState_eq (status : RunStatus) (n : Word) (s : State) :
    enterPowerState status n s = .next
      { s with status := if s.haltMode = .terminal then status else s.status, pc := s.pc + n } := by
  unfold enterPowerState
  cases h : s.haltMode <;> simp [State.advance, State.setPc, State.setStatus, h]

theorem exec_halt (s : State) : exec .halt s = .next
    { s with status := if s.haltMode = .terminal then .halted else s.status, pc := s.pc + 1 } :=
  enterPowerState_eq .halted 1 s

theorem exec_stop (s : State) : exec .stop s = .next
    { s with status := if s.haltMode = .terminal then .stopped else s.status, pc := s.pc + 2 } :=
  enterPowerState_eq .stopped 2 s

/-! ## The control cells after each instruction -/

/-- What each instruction leaves in the control cells (44_control.md R250; 47_misc.md R341 to R344;
60_exceptions.md R371). -/
def controlAfter (i : Instr) (s : State) : ControlCells :=
  match i with
  | .halt => { s.control with status := if s.haltMode = .terminal then .halted else s.status }
  | .stop => { s.control with status := if s.haltMode = .terminal then .stopped else s.status }
  | .di => { s.control with ime := 0, ei := 0 }
  | .ei => { s.control with ei := 1 }
  | .reti => { s.control with ime := 1 }
  | .noTableEntry op => { s.control with status := .faulted { addr := s.pc, opcode := op } }
  | _ => s.control

theorem controlAfter_of_not_usesControl {i : Instr} (hi : usesControl i = false) (s : State) :
    controlAfter i s = s.control := by
  unfold controlAfter
  split
  iterate 6 cases hi
  rfl

theorem exec_control {i : Instr} {s t : State} (h : exec i s = .next t) : t.control = controlAfter i s := by
  rcases usesControl_cases i with hi | rfl | rfl | rfl | rfl | rfl | ⟨op, rfl⟩
  · rw [exec_keeps_control hi h, controlAfter_of_not_usesControl hi]
  · rw [exec_halt] at h; cases h; rfl
  · rw [exec_stop] at h; cases h; rfl
  all_goals cases h; rfl

theorem controlAfter_ie (i : Instr) (s : State) : (controlAfter i s).ie = s.ie := by
  unfold controlAfter
  split <;> rfl

theorem controlAfter_ime_ei {i : Instr} (hi : i ∉ [Instr.di, .ei, .reti]) (s : State) :
    (controlAfter i s).ime = s.ime ∧ (controlAfter i s).ei = s.ei := by
  unfold controlAfter
  split
  case h_3 | h_4 | h_5 => simp at hi -- DI, EI, RETI
  all_goals exact ⟨rfl, rfl⟩

theorem controlAfter_status {i : Instr} (hhalt : i ≠ .halt) (hstop : i ≠ .stop)
    (hentry : ∀ op, i ≠ .noTableEntry op) (s : State) : (controlAfter i s).status = s.status := by
  unfold controlAfter
  split
  case h_1 => exact absurd rfl hhalt
  case h_2 => exact absurd rfl hstop
  case h_6 => exact absurd rfl (hentry _)
  all_goals rfl

end Sys2Proof.Machine
end

section
/-! PROOFS. O24 and O20: what a step does to the snapshot cells and to the run status, and what it reads of them. -/

namespace Sys2Proof.Machine

/-! ## The opcode at PC and the decoded instruction -/

/-- The instruction fetched has the byte at PC as its opcode. -/
theorem fetchEntry_opcode {s : State} {i : Instr} (h : s.fetchEntry = some i) :
    i.opcodeBytes.head? = some (s.read s.pc) :=
  decodeEntry_opcode h

theorem fetchEntry_eq_none_iff (s : State) : s.fetchEntry = none ↔ s.read s.pc ∈ unusedOpcodes :=
  decodeEntry_eq_none_iff _ _

theorem fetchEntry_ne_noTableEntry (s : State) (op : Byte) : s.fetchEntry ≠ some (.noTableEntry op) :=
  decodeEntry_ne_noTableEntry _ _ op

theorem fetchEntry_halt {s : State} (h : s.read s.pc = 0x76) : s.fetchEntry = some .halt := by
  rw [State.fetchEntry, State.opcode, h]
  rfl

theorem fetchEntry_stop {s : State} (h : s.read s.pc = 0x10) : s.fetchEntry = some .stop := by
  rw [State.fetchEntry, State.opcode, h]
  rfl

/-! ## The snapshot cells are not read -/

theorem AgreeButCells.fetchEntry {s t : State} (h : AgreeButCells s t) : t.fetchEntry = s.fetchEntry := by
  rw [h]
  rfl

theorem AgreeButCells.promoteEi {s t : State} (h : AgreeButCells s t) :
    AgreeButCells s.promoteEi t.promoteEi := by
  rw [h, promoteEi_eq, promoteEi_eq]
  rfl

/-- No instruction reads a snapshot cell. -/
theorem exec_agreeButCells (i : Instr) {s t : State} (h : AgreeButCells s t) :
    OutcomesAgreeButCells (exec i s) (exec i t) := by
  rcases usesControl_cases i with hi | rfl | rfl | rfl | rfl | rfl | ⟨op, rfl⟩
  · obtain ⟨u, hu⟩ := exec_completes i s
    have hkeep := exec_keeps_control hi hu
    have ht : t = s.withControl ⟨t.ime, t.ie, t.ei, s.status, s.haltMode⟩ := h
    rw [ht, exec_withControl hi, hu, mapNext_next]
    simp only [State.control, ControlCells.mk.injEq] at hkeep
    obtain ⟨-, -, -, hstatus, hhalt⟩ := hkeep
    rw [← hstatus, ← hhalt]
    rfl
  · rw [h, exec_halt, exec_halt]; rfl
  · rw [h, exec_stop, exec_stop]; rfl
  all_goals rw [h]; rfl

theorem step_agreeButCells {s t : State} (h : AgreeButCells s t) :
    OutcomesAgreeButCells (step s) (step t) := by
  have hstatus : t.status = s.status := by rw [h]
  cases hs : s.status with
  | running =>
    cases hf : s.fetchEntry with
    | some i =>
      rw [step_entry hs hf, step_entry (hstatus.trans hs) (h.fetchEntry.trans hf)]
      exact exec_agreeButCells i h.promoteEi
    | none =>
      rw [step_noEntry hs hf, step_noEntry (hstatus.trans hs) (h.fetchEntry.trans hf), h]
      rfl
  | halted | stopped | faulted => simp [step, hstatus, hs, OutcomesAgreeButCells]

/-! ## Who writes the snapshot cells -/

theorem step_ie {s t : State} (h : step s = .next t) : t.ie = s.ie := by
  obtain ⟨-, ⟨i, -, hexec⟩ | ⟨-, rfl⟩⟩ := step_next_cases h
  · have hie : t.ie = s.promoteEi.ie :=
      (congrArg ControlCells.ie (exec_control hexec)).trans (controlAfter_ie i _)
    rw [hie, promoteEi_eq]
  · rfl

/-- With no EI pending, a step of an opcode other than DI's, EI's and RETI's keeps ime and ei. -/
theorem step_ime_ei {s t : State} (h : step s = .next t) (hei : s.ei = 0)
    (hop : s.read s.pc ∉ ([0xF3, 0xFB, 0xD9] : List Byte)) : t.ime = s.ime ∧ t.ei = s.ei := by
  obtain ⟨-, ⟨i, hi, hexec⟩ | ⟨-, rfl⟩⟩ := step_next_cases h
  · have hnot : i ∉ [Instr.di, .ei, .reti] := by
      intro hmem
      have hread := fetchEntry_opcode hi
      simp only [List.mem_cons, List.not_mem_nil, or_false] at hmem
      rcases hmem with rfl | rfl | rfl
      all_goals
        rw [← Option.some.inj hread] at hop
        exact hop (by decide)
    have hpromote : s.promoteEi = s := if_neg (not_not.mpr hei)
    rw [hpromote] at hexec
    obtain ⟨hime, hei'⟩ := controlAfter_ime_ei hnot s
    have hcontrol := exec_control hexec
    exact ⟨(congrArg ControlCells.ime hcontrol).trans hime, (congrArg ControlCells.ei hcontrol).trans hei'⟩
  · exact ⟨rfl, rfl⟩

/-! ## Loading a snapshot -/

/-- Loading a snapshot in one piece (10_state.md R44). -/
theorem loadSnapshot_eq (s : State) (snap : Snapshot) :
    s.loadSnapshot snap =
      { a := snap.a, b := snap.b, c := snap.c, d := snap.d, e := snap.e, h := snap.h, l := snap.l
        f := byteToFlags snap.f, sp := snap.sp, pc := snap.pc, mem := (s.writeRam snap.ram).mem
        ime := snap.ime, ie := snap.ie, ei := snap.ei, status := .running, haltMode := s.haltMode } := by
  rw [State.loadSnapshot, writeRam_eq]
  simp only [State.setStatus, State.mk.injEq, true_and, and_true]
  exact writeRam_mem_congr (by rfl) snap.ram

/-- Settles O24: a step commutes with a change of the snapshot cells, because every instruction does. -/
theorem snapshotCellsNeverInfluenceExecution : Obligations.SnapshotCellsNeverInfluenceExecution := by
  refine ⟨fun _ _ => step_agreeButCells, fun _ _ => step_ie, fun _ _ => step_ime_ei,
    fun _ _ => ⟨rfl, rfl⟩, fun s snap => ?_⟩
  rw [loadSnapshot_eq]
  exact ⟨rfl, rfl, rfl⟩

/-! ## The run status after a step -/

/-- The status a running step leaves, by the opcode at PC and HALT_MODE (10_state.md R40). -/
def statusAfterStep (s : State) : RunStatus :=
  if s.read s.pc ∈ unusedOpcodes then .faulted { addr := s.pc, opcode := s.read s.pc }
  else if s.read s.pc = 0x76 ∧ s.haltMode = .terminal then .halted
  else if s.read s.pc = 0x10 ∧ s.haltMode = .terminal then .stopped
  else .running

theorem step_status {s t : State} (h : step s = .next t) : t.status = statusAfterStep s := by
  obtain ⟨hrun, ⟨i, hi, hexec⟩ | ⟨hnone, rfl⟩⟩ := step_next_cases h
  · have hused : s.read s.pc ∉ unusedOpcodes := by
      rw [← fetchEntry_eq_none_iff, hi]
      exact nofun
    rw [statusAfterStep, if_neg hused]
    rw [promoteEi_eq] at hexec
    have hstatus : t.status = _ := congrArg ControlCells.status (exec_control hexec)
    by_cases hhalt : i = .halt
    · subst hhalt
      have hop : 0x76 = s.read s.pc := Option.some.inj (fetchEntry_opcode hi)
      simp [hstatus, controlAfter, ← hop, hrun]
    by_cases hstop : i = .stop
    · subst hstop
      have hop : 0x10 = s.read s.pc := Option.some.inj (fetchEntry_opcode hi)
      simp [hstatus, controlAfter, ← hop, hrun]
    have hentry : ∀ op, i ≠ .noTableEntry op := fun op heq => fetchEntry_ne_noTableEntry s op (heq ▸ hi)
    have hnotHalt : ¬(s.read s.pc = 0x76 ∧ s.haltMode = .terminal) := fun hs =>
      hhalt (Option.some.inj (hi.symm.trans (fetchEntry_halt hs.1)))
    have hnotStop : ¬(s.read s.pc = 0x10 ∧ s.haltMode = .terminal) := fun hs =>
      hstop (Option.some.inj (hi.symm.trans (fetchEntry_stop hs.1)))
    rw [if_neg hnotHalt, if_neg hnotStop, hstatus, controlAfter_status hhalt hstop hentry]
    exact hrun
  · rw [statusAfterStep, if_pos ((fetchEntry_eq_none_iff s).mp hnone)]
    rfl

theorem statusAfterStep_eq_halted_iff (s : State) :
    statusAfterStep s = .halted ↔ s.read s.pc = 0x76 ∧ s.haltMode = .terminal := by
  unfold statusAfterStep
  split_ifs with hunused hhalt hstop
  · exact iff_of_false nofun fun hs => absurd (hs.1 ▸ hunused) (by decide)
  · exact iff_of_true rfl hhalt
  · exact iff_of_false nofun hhalt
  · exact iff_of_false nofun hhalt

theorem statusAfterStep_eq_stopped_iff (s : State) :
    statusAfterStep s = .stopped ↔ s.read s.pc = 0x10 ∧ s.haltMode = .terminal := by
  unfold statusAfterStep
  split_ifs with hunused hhalt hstop
  · exact iff_of_false nofun fun hs => absurd (hs.1 ▸ hunused) (by decide)
  · exact iff_of_false nofun fun hs => absurd (hhalt.1.symm.trans hs.1) (by decide)
  · exact iff_of_true rfl hstop
  · exact iff_of_false nofun hstop

theorem statusAfterStep_eq_faulted_iff (s : State) (info : DecodeError) :
    statusAfterStep s = .faulted info ↔
      s.read s.pc ∈ unusedOpcodes ∧ info = { addr := s.pc, opcode := s.read s.pc } := by
  unfold statusAfterStep
  split_ifs with hunused hhalt hstop
  · simp [hunused, eq_comm]
  · exact iff_of_false nofun fun hs => hunused hs.1
  · exact iff_of_false nofun fun hs => hunused hs.1
  · exact iff_of_false nofun fun hs => hunused hs.1

/-- A running step answers a next state. -/
theorem step_completes {s : State} (hrun : s.status = .running) : ∃ t, step s = .next t := by
  cases hf : s.fetchEntry with
  | some i => exact step_entry hrun hf ▸ exec_completes i s.promoteEi
  | none => exact ⟨_, step_noEntry hrun hf⟩

/-- Settles O20: a step's status is read off the opcode at PC and HALT_MODE. -/
theorem runStatusChangesOnlyAsStated : Obligations.RunStatusChangesOnlyAsStated := by
  refine ⟨fun s => ⟨fun ⟨_, h⟩ => (step_next_cases h).1, step_completes⟩, ?_, ?_, ?_,
    fun s t h => ?_, fun _ _ => rfl⟩
  · intro s h
    simp only [step, h]
  · intro s h
    simp only [step, h]
  · intro s info h
    simp only [step, h]
  · rw [step_status h]
    exact ⟨statusAfterStep_eq_halted_iff s, statusAfterStep_eq_stopped_iff s, statusAfterStep_eq_faulted_iff s⟩

end Sys2Proof.Machine
end

section
/-! PROOFS. O28: the flag table, one case for each family. A family computes the flags by a function of the old flags
beside everything else of the next state, and that function keeps to the family's row. -/

namespace Sys2Proof.Machine

/-! ## Rows as relations between the flags before and after -/

/-- `g` agrees with `f` on the flags that are read. -/
def FlagsRead.agree (reads : FlagsRead) (f g : Flags) : Prop :=
  (reads.z = true → g.z = f.z) ∧ (reads.n = true → g.n = f.n) ∧
  (reads.h = true → g.h = f.h) ∧ (reads.c = true → g.c = f.c)

/-- The flags before and after are as the row says. -/
def FlagRow.obeyed (row : FlagRow) (before after : Flags) : Prop :=
  row.z.obeyed before.z after.z ∧ row.n.obeyed before.n after.n ∧
  row.h.obeyed before.h after.h ∧ row.c.obeyed before.c after.c

/-- The flags `after`, with those the row keeps taken from `g`. -/
def FlagRow.keepFrom (row : FlagRow) (g after : Flags) : Flags :=
  { z := if row.z = .kept then g.z else after.z
    n := if row.n = .kept then g.n else after.n
    h := if row.h = .kept then g.h else after.h
    c := if row.c = .kept then g.c else after.c }

/-- The function of the flags writes as the row says and reads no flag but those named. -/
def FlagRow.admits (row : FlagRow) (reads : FlagsRead) (φ : Flags → Flags) : Prop :=
  ∀ f g, reads.agree f g → row.obeyed f (φ f) ∧ φ g = row.keepFrom g (φ f)

theorem FlagsRead.agree_refl (reads : FlagsRead) (f : Flags) : reads.agree f f :=
  ⟨fun _ => rfl, fun _ => rfl, fun _ => rfl, fun _ => rfl⟩

theorem FlagsRead.eq_of_agree_all {f g : Flags} (h : (FlagsRead.mk true true true true).agree f g) : g = f := by
  cases f
  cases g
  simpa [FlagsRead.agree] using h

/-- The row of an instruction that writes no flag. -/
def keptRow : FlagRow := ⟨.kept, .kept, .kept, .kept⟩

/-- No flag is read. -/
def noneRead : FlagsRead := ⟨false, false, false, false⟩

/-- What O28 says of one instruction in one state. -/
def FollowsTable (i : Instr) (s : State) : Prop :=
  ∃ t, exec i s = .next t ∧ (flagRowOf i s).obeyed s.f t.f ∧
    ∀ g, (flagsReadBy i s).agree s.f g →
      exec i { s with f := g } = .next { t with f := (flagRowOf i s).keepFrom g t.f }

/-- An instruction whose next state is one state, `body`, but for the flags, which are an admitted function of the
old flags. -/
theorem followsTable_of_admits {i : Instr} {s : State} (row : FlagRow) (reads : FlagsRead) (body : State)
    (φ : Flags → Flags) (hrow : flagRowOf i s = row) (hreads : flagsReadBy i s = reads)
    (hexec : ∀ g, reads.agree s.f g → exec i { s with f := g } = .next { body with f := φ g })
    (hφ : row.admits reads φ) : FollowsTable i s := by
  subst hrow hreads
  have hself := FlagsRead.agree_refl (flagsReadBy i s) s.f
  refine ⟨{ body with f := φ s.f }, hexec s.f hself, (hφ s.f s.f hself).1, fun g hg => ?_⟩
  rw [hexec g hg, (hφ s.f g hg).2]

/-- An instruction that passes the flags on. -/
theorem followsTable_of_kept {i : Instr} {s : State} (hrow : flagRowOf i s = keptRow)
    (hexec : ∀ g, (flagsReadBy i s).agree s.f g →
      exec i { s with f := g } = mapNext (fun t => { t with f := g }) (exec i s)) : FollowsTable i s := by
  obtain ⟨body, hbody⟩ := exec_completes i s
  rw [hbody] at hexec
  exact followsTable_of_admits keptRow _ body id hrow rfl hexec fun f g _ => ⟨⟨rfl, rfl, rfl, rfl⟩, rfl⟩

/-! ## The families that compute flags -/

/-- The flags a condition reads. -/
def condFlagsRead : Cond → FlagsRead
  | .nz => ⟨true, false, false, false⟩
  | .z => ⟨true, false, false, false⟩
  | .nc => ⟨false, false, false, true⟩
  | .c => ⟨false, false, false, true⟩

theorem condHolds_congr {cc : Cond} {f g : Flags} (h : (condFlagsRead cc).agree f g) :
    condHolds cc g = condHolds cc f := by
  obtain ⟨hz, -, -, hc⟩ := h
  cases cc with
  | nz => exact congrArg not (hz rfl)
  | z => exact hz rfl
  | nc => exact congrArg not (hc rfl)
  | c => exact hc rfl

/-- The flags an accumulator operation reads. -/
def aluFlagsRead : AluOp → FlagsRead
  | .adc => ⟨false, false, false, true⟩
  | .sbc => ⟨false, false, false, true⟩
  | _ => noneRead

/-- The row of an accumulator operation. -/
def aluFlagRow : AluOp → FlagRow
  | .add => ⟨.computed, .cleared, .computed, .computed⟩
  | .adc => ⟨.computed, .cleared, .computed, .computed⟩
  | .sub => ⟨.computed, .isSet, .computed, .computed⟩
  | .sbc => ⟨.computed, .isSet, .computed, .computed⟩
  | .and => ⟨.computed, .cleared, .isSet, .cleared⟩
  | .xor => ⟨.computed, .cleared, .cleared, .cleared⟩
  | .or => ⟨.computed, .cleared, .cleared, .cleared⟩
  | .cp => ⟨.computed, .isSet, .computed, .computed⟩

theorem aluResult_congr {op : AluOp} {f g : Flags} (h : (aluFlagsRead op).agree f g) (a v : Byte) :
    aluResult op a v g = aluResult op a v f := by
  obtain ⟨-, -, -, hc⟩ := h
  cases op with
  | adc => rw [aluResult, aluResult, hc rfl]
  | sbc => rw [aluResult, aluResult, hc rfl]
  | _ => rfl

theorem aluFlagRow_admits (op : AluOp) (a v : Byte) :
    (aluFlagRow op).admits (aluFlagsRead op) fun f => (aluResult op a v f).2 := by
  intro f g h
  beta_reduce
  rw [aluResult_congr h]
  cases op <;> exact ⟨⟨trivial, rfl, by trivial, by trivial⟩, rfl⟩

theorem followsTable_alu (op : AluOp) (src : AluSrc) (s : State) : FollowsTable (.aluOf op src) s := by
  refine followsTable_of_admits (aluFlagRow op) (aluFlagsRead op)
    ((s.setReg .a (aluResult op s.a (s.aluOperand src) s.f).1).advance (aluLength src)) _ ?_ ?_ (fun g hg => ?_)
    (aluFlagRow_admits op s.a (s.aluOperand src))
  · rcases src with (_ | _) | _ | _ <;> cases op <;> rfl
  · rcases src with (_ | _) | _ | _ <;> cases op <;> rfl
  · have hsrc : State.aluOperand { s with f := g } src = s.aluOperand src := by
      rcases src with (_ | _) | _ | _ <;> rfl
    rw [exec_aluOf, accumulatorOp_eq, hsrc, ← aluResult_congr hg]
    rfl

/-- Only the rotates through carry, RL and RR, depend on C. -/
theorem rotResult_congr {op : RotOp} {x : Loc8} {f g : Flags} (h : (CbOp.flagsRead (.rot op x)).agree f g)
    (v : Byte) : rotResult op v g.c = rotResult op v f.c := by
  obtain ⟨-, -, -, hc⟩ := h
  cases op with
  | rl => rw [hc rfl]
  | rr => rw [hc rfl]
  | _ => rfl

theorem rotFlagRow_admits (op : RotOp) (x : Loc8) (v : Byte) :
    (CbOp.flagRow (.rot op x)).admits (CbOp.flagsRead (.rot op x)) fun f =>
      rotFlags (rotResult op v f.c).1 (rotResult op v f.c).2 := by
  intro f g h
  beta_reduce
  rw [rotResult_congr h]
  cases op <;> exact ⟨⟨trivial, rfl, rfl, by trivial⟩, rfl⟩

theorem followsTable_rot (op : RotOp) (x : Loc8) (s : State) : FollowsTable (.rotOf op x) s := by
  refine followsTable_of_admits (CbOp.flagRow (.rot op x)) (CbOp.flagsRead (.rot op x))
    ((s.writeLoc x (rotResult op (s.readLoc x) s.f.c).1).advance 2) _ (by cases op <;> rfl) (by cases op <;> rfl)
    (fun g hg => ?_) (rotFlagRow_admits op x (s.readLoc x))
  rw [exec_rotOf, rotateLoc_eq, ← rotResult_congr hg]
  cases x <;> rfl

/-- An accumulator rotate reads the flags of the CB rotate it computes A by. -/
theorem followsTable_accRot (op : AccRot) (s : State) : FollowsTable (.accRotOf op) s := by
  refine followsTable_of_admits ⟨.cleared, .cleared, .cleared, .computed⟩ (CbOp.flagsRead (.rot (accRotOp op) .a))
    ((s.setReg .a (rotResult (accRotOp op) s.a s.f.c).1).advance 1)
    (fun f => accRotFlags (rotResult (accRotOp op) s.a f.c).2) (by cases op <;> rfl) (by cases op <;> rfl)
    (fun g hg => ?_) fun f g hg => ?_
  · rw [exec_accRotOf, rotateAccumulator_eq, ← rotResult_congr hg]
    rfl
  · beta_reduce
    rw [rotResult_congr hg]
    exact ⟨⟨rfl, rfl, rfl, trivial⟩, rfl⟩

theorem followsTable_inc (x : Loc8) (s : State) : FollowsTable (.incOf x) s :=
  followsTable_of_admits ⟨.computed, .cleared, .computed, .kept⟩ noneRead
    ((s.writeLoc x (incByte (s.readLoc x) s.f).1).advance 1) (fun f => (incByte (s.readLoc x) f).2)
    (by cases x <;> rfl) (by cases x <;> rfl) (fun g _ => by cases x <;> rfl)
    fun _ _ _ => ⟨⟨trivial, rfl, trivial, rfl⟩, rfl⟩

theorem followsTable_dec (x : Loc8) (s : State) : FollowsTable (.decOf x) s :=
  followsTable_of_admits ⟨.computed, .isSet, .computed, .kept⟩ noneRead
    ((s.writeLoc x (decByte (s.readLoc x) s.f).1).advance 1) (fun f => (decByte (s.readLoc x) f).2)
    (by cases x <;> rfl) (by cases x <;> rfl) (fun g _ => by cases x <;> rfl)
    fun _ _ _ => ⟨⟨trivial, rfl, trivial, rfl⟩, rfl⟩

theorem followsTable_addHl (p : Pair) (s : State) : FollowsTable (.addHlOf p) s :=
  followsTable_of_admits ⟨.kept, .cleared, .computed, .computed⟩ noneRead
    ((s.setPair .hl (addWords s.hl (s.pair p) s.f).1).advance 1) (fun f => (addWords s.hl (s.pair p) f).2)
    (by cases p <;> rfl) (by cases p <;> rfl) (fun g _ => by cases p <;> rfl)
    fun _ _ _ => ⟨⟨rfl, rfl, trivial, trivial⟩, rfl⟩

/-- ADD SP,e8 and LD HL,SP+e8, which share their flags (41_alu16.md R173, R174). -/
theorem followsTable_spOffset {i : Instr} {dst : Pair} {s : State}
    (hrow : flagRowOf i s = ⟨.cleared, .cleared, .computed, .computed⟩) (hreads : flagsReadBy i s = noneRead)
    (hexec : exec i = spOffsetInto dst) : FollowsTable i s :=
  followsTable_of_admits _ noneRead ((s.setPair dst (spPlusOffset s.sp s.imm8).1).advance 2)
    (fun _ => (spPlusOffset s.sp s.imm8).2) hrow hreads (fun g _ => by rw [hexec]; cases dst <;> rfl)
    fun _ _ _ => ⟨⟨rfl, rfl, trivial, trivial⟩, rfl⟩

theorem daaResult_congr {f g : Flags} (h : (FlagsRead.mk false true true true).agree f g) (a : Byte) :
    daaResult a g = daaResult a f := by
  obtain ⟨-, hn, hh, hc⟩ := h
  rw [daaResult, daaResult, hn rfl, hh rfl, hc rfl]

theorem followsTable_daa (s : State) : FollowsTable .daa s := by
  refine followsTable_of_admits ⟨.computed, .kept, .cleared, .computed⟩ ⟨false, true, true, true⟩
    ((s.setReg .a (daaResult s.a s.f).1).advance 1) (fun f => (daaResult s.a f).2) rfl rfl
    (fun g hg => ?_) fun f g hg => ?_
  · rw [← daaResult_congr hg]
    rfl
  · have ⟨_, hn, _, _⟩ := hg
    beta_reduce
    rw [daaResult_congr hg]
    refine ⟨⟨trivial, rfl, rfl, trivial⟩, ?_⟩
    simp [FlagRow.keepFrom, daaResult, hn rfl]

theorem followsTable_ccf (s : State) : FollowsTable .ccf s := by
  refine followsTable_of_admits ⟨.kept, .cleared, .cleared, .computed⟩ ⟨false, false, false, true⟩ (s.advance 1)
    ccfFlags rfl rfl (fun g _ => rfl) fun f g ⟨_, _, _, hc⟩ => ⟨⟨rfl, rfl, rfl, trivial⟩, ?_⟩
  simp [FlagRow.keepFrom, ccfFlags, hc]

theorem followsTable_bit (n : BitVec 3) (x : Loc8) (s : State) : FollowsTable (.bitBR n x) s :=
  followsTable_of_admits ⟨.computed, .cleared, .isSet, .kept⟩ noneRead (s.advance 2)
    (bitTestFlags n (s.readLoc x)) rfl rfl (fun g _ => by cases x <;> rfl)
    fun _ _ _ => ⟨⟨trivial, rfl, rfl, rfl⟩, rfl⟩

theorem followsTable_push (p : StkPair) (s : State) : FollowsTable (.pushOf p) s := by
  refine followsTable_of_kept (by cases p <;> rfl) fun g hg => ?_
  cases p with
  | af =>
    rw [FlagsRead.eq_of_agree_all hg]
    rfl
  | _ => rfl

theorem followsTable_pop (p : StkPair) (s : State) : FollowsTable (.popOf p) s := by
  cases p with
  | af =>
    exact followsTable_of_admits ⟨.computed, .computed, .computed, .computed⟩ noneRead
      ((s.dropStack.setReg .a (highByte s.stackTop)).advance 1) (fun _ => byteToFlags (lowByte s.stackTop))
      rfl rfl (fun g _ => rfl) fun _ _ _ => ⟨⟨trivial, trivial, trivial, trivial⟩, rfl⟩
  | _ => exact followsTable_of_kept rfl fun _ _ => rfl

/-! ## The conditional transfers -/

/-- An instruction that takes one of two ways by a condition, and passes the flags on in both. -/
theorem followsTable_of_condition {i : Instr} {s : State} {cc : Cond} (taken fall : State → State)
    (hrow : flagRowOf i s = keptRow) (hreads : flagsReadBy i s = condFlagsRead cc)
    (hexec : ∀ t, exec i t = .next (if condHolds cc t.f then taken t else fall t))
    (htaken : ∀ g, taken { s with f := g } = { taken s with f := g })
    (hfall : ∀ g, fall { s with f := g } = { fall s with f := g }) : FollowsTable i s := by
  refine followsTable_of_kept hrow fun g hg => ?_
  rw [hreads] at hg
  rw [hexec, hexec, condHolds_congr hg, mapNext_next, htaken, hfall]
  split <;> rfl

/-! ## All instructions -/

theorem followsTable_cbOf (op : CbOp) (s : State) : FollowsTable (.cbOf op) s := by
  cases op with
  | rot op x => exact followsTable_rot op x s
  | bit n x => exact followsTable_bit n x s
  | res n x => exact followsTable_of_kept rfl fun _ _ => by cases x <;> rfl
  | set n x => exact followsTable_of_kept rfl fun _ _ => by cases x <;> rfl

theorem flagRowOf_cbOf (op : CbOp) (s : State) : flagRowOf (.cbOf op) s = CbOp.flagRow op := by
  cases op with
  | rot op x => cases op <;> rfl
  | _ => rfl

theorem flagsReadBy_cbOf (op : CbOp) (s : State) : flagsReadBy (.cbOf op) s = CbOp.flagsRead op := by
  cases op with
  | rot op x => cases op <;> rfl
  | _ => rfl

theorem followsTable_prefixCb (s : State) : FollowsTable .prefixCb s := by
  have h := followsTable_cbOf (decodeCb s.imm8) s
  rw [FollowsTable, flagRowOf_cbOf, flagsReadBy_cbOf] at h
  obtain ⟨t, ht, hobeyed, hother⟩ := h
  exact ⟨t, (exec_prefixCb s).trans ht, hobeyed, fun g hg => (exec_prefixCb _).trans (hother g hg)⟩

theorem followsTable (i : Instr) (s : State) : FollowsTable i s := by
  induction i using instr_families with
  | ld r r' => exact followsTable_of_kept (by cases r <;> cases r' <;> rfl) fun _ _ => by cases r <;> cases r' <;> rfl
  | ldIndHl r => exact followsTable_of_kept (by cases r <;> rfl) fun _ _ => by cases r <;> rfl
  | stIndHl r => exact followsTable_of_kept (by cases r <;> rfl) fun _ _ => by cases r <;> rfl
  | ldN8 r => exact followsTable_of_kept (by cases r <;> rfl) fun _ _ => by cases r <;> rfl
  | stMem m => exact followsTable_of_kept (by cases m <;> rfl) fun _ _ => by cases m <;> rfl
  | ldMem m => exact followsTable_of_kept (by cases m <;> rfl) fun _ _ => by cases m <;> rfl
  | ldN16 p => exact followsTable_of_kept (by cases p <;> rfl) fun _ _ => by cases p <;> rfl
  | incPair p => exact followsTable_of_kept (by cases p <;> rfl) fun _ _ => by cases p <;> rfl
  | decPair p => exact followsTable_of_kept (by cases p <;> rfl) fun _ _ => by cases p <;> rfl
  | addHl p => exact followsTable_addHl p s
  | push p => exact followsTable_push p s
  | pop p => exact followsTable_pop p s
  | jpCc cc =>
    exact followsTable_of_condition (cc := cc) (fun t => t.setPc t.imm16) (·.advance 3)
      (by cases cc <;> rfl) (by cases cc <;> rfl) (exec_jpOf cc) (fun _ => rfl) fun _ => rfl
  | jrCc cc =>
    exact followsTable_of_condition (cc := cc) (fun t => t.setPc t.relativeTarget) (·.advance 2)
      (by cases cc <;> rfl) (by cases cc <;> rfl) (exec_jrOf cc) (fun _ => rfl) fun _ => rfl
  | callCc cc =>
    exact followsTable_of_condition (cc := cc) State.callTarget (·.advance 3)
      (by cases cc <;> rfl) (by cases cc <;> rfl) (exec_callOf cc) (fun _ => rfl) fun _ => rfl
  | retCc cc =>
    exact followsTable_of_condition (cc := cc) State.returnFromCall (·.advance 1)
      (by cases cc <;> rfl) (by cases cc <;> rfl) (exec_retOf cc) (fun _ => rfl) fun _ => rfl
  | rst t => exact followsTable_of_kept (by fin_cases t <;> rfl) fun _ _ => by rw [exec_rstOf, exec_rstOf]; rfl
  | inc x => exact followsTable_inc x s
  | dec x => exact followsTable_dec x s
  | alu op src => exact followsTable_alu op src s
  | accRot op => exact followsTable_accRot op s
  | rot op x => exact followsTable_cbOf (.rot op x) s
  | bit n x => exact followsTable_cbOf (.bit n x) s
  | res n x => exact followsTable_cbOf (.res n x) s
  | set n x => exact followsTable_cbOf (.set n x) s
  | prefixCb => exact followsTable_prefixCb s
  | halt =>
    refine followsTable_of_kept rfl fun g _ => ?_
    rw [exec_halt, exec_halt]
    rfl
  | stop =>
    refine followsTable_of_kept rfl fun g _ => ?_
    rw [exec_stop, exec_stop]
    rfl
  | daa => exact followsTable_daa s
  | cpl =>
    exact followsTable_of_admits ⟨.kept, .isSet, .isSet, .kept⟩ noneRead ((s.setReg .a (~~~s.a)).advance 1)
      cplFlags rfl rfl (fun _ _ => rfl) fun _ _ _ => ⟨⟨rfl, rfl, rfl, rfl⟩, rfl⟩
  | scf =>
    exact followsTable_of_admits ⟨.kept, .cleared, .cleared, .isSet⟩ noneRead (s.advance 1)
      scfFlags rfl rfl (fun _ _ => rfl) fun _ _ _ => ⟨⟨rfl, rfl, rfl, rfl⟩, rfl⟩
  | ccf => exact followsTable_ccf s
  | addSpE8 => exact followsTable_spOffset (dst := .sp) rfl rfl rfl
  | ldHlSpE8 => exact followsTable_spOffset (dst := .hl) rfl rfl rfl
  | _ => exact followsTable_of_kept rfl fun _ _ => rfl

/-- Settles O28, family by family. -/
theorem flagsFollowTheWritersAndReadersTable : Obligations.FlagsFollowTheWritersAndReadersTable := by
  refine ⟨fun i s t h => ?_, fun i s t g h hz hn hh hc => ?_⟩
  all_goals
    obtain ⟨t', ht', hobeyed, hother⟩ := followsTable i s
    cases h.symm.trans ht'
  · exact hobeyed
  · exact ⟨_, hother g ⟨hz, hn, hh, hc⟩, rfl, rfl, rfl, rfl, rfl⟩

end Sys2Proof.Machine
end

section
/-! PROOFS. O1, O2, O8 and O9: the views of the cells, and the snapshot load and compare. -/

namespace Sys2Proof.Machine

/-! ## The byte view of F (10_state.md R33) -/

theorem flagsToByte_eq_ofNat (f : Flags) :
    flagsToByte f = BitVec.ofNat 8 (bitNat f.z * 128 + bitNat f.n * 64 + bitNat f.h * 32 + bitNat f.c * 16) := by
  obtain ⟨z, n, h, c⟩ := f
  revert z n h c
  decide

theorem byteToFlags_flagsToByte (f : Flags) : byteToFlags (flagsToByte f) = f := by
  obtain ⟨z, n, h, c⟩ := f
  revert z n h c
  decide

theorem flagsToByte_and_lowNibble (f : Flags) : flagsToByte f &&& 0x0F = 0 := by
  obtain ⟨z, n, h, c⟩ := f
  revert z n h c
  decide

theorem flagsToByte_byteToFlags : ∀ x : Byte, flagsToByte (byteToFlags x) = x &&& 0xF0 := by
  decide

/-! ## Comparing with a snapshot (10_state.md R45) -/

theorem matchesSnapshot_iff (s : State) (snap : Snapshot) :
    s.matchesSnapshot snap = true ↔
      s.a = snap.a ∧ s.b = snap.b ∧ s.c = snap.c ∧ s.d = snap.d ∧ s.e = snap.e ∧ s.h = snap.h ∧
      s.l = snap.l ∧ flagsToByte s.f = snap.f ∧ s.sp = snap.sp ∧ s.pc = snap.pc ∧
      (∀ cell ∈ snap.ram, s.read cell.1 = cell.2) := by
  simp only [State.matchesSnapshot, Bool.and_eq_true, decide_eq_true_eq, List.all_eq_true, and_assoc]

theorem matchesSnapshot_f {s : State} {snap : Snapshot} (h : s.matchesSnapshot snap = true) :
    snap.f = flagsToByte s.f := by
  obtain ⟨-, -, -, -, -, -, -, hf, -⟩ := (matchesSnapshot_iff s snap).mp h
  exact hf.symm

/-- Settles O9: the comparison is the conjunction it decides, and F's byte has a zero low nibble. -/
theorem snapshotCompareChecksTheListedState : Obligations.SnapshotCompareChecksTheListedState := by
  refine ⟨matchesSnapshot_iff, fun _ _ _ _ _ => rfl, fun s snap hnibble => ?_⟩
  by_contra h
  rw [Bool.not_eq_false] at h
  exact hnibble (matchesSnapshot_f h ▸ flagsToByte_and_lowNibble s.f)

/-! ## Loading a snapshot (10_state.md R44) -/

theorem read_loadSnapshot {s : State} (hs : Inv s) (snap : Snapshot) (addr : Word) :
    (s.loadSnapshot snap).read addr = afterStores addr (s.read addr) snap.ram := by
  rw [← read_writeRam hs, loadSnapshot_eq]
  rfl

/-- Settles O8: a load in one piece, and its memory by the writes of the ram list. -/
theorem snapshotLoadSetsTheState : Obligations.SnapshotLoadSetsTheState := by
  intro s snap
  have hread := fun hs => read_loadSnapshot (s := s) hs snap
  rw [loadSnapshot_eq] at hread ⊢
  exact ⟨rfl, rfl, rfl, rfl, rfl, rfl, rfl, rfl, flagsToByte_byteToFlags snap.f,
    rfl, rfl, rfl, rfl, rfl, rfl, hread⟩

/-- Settles O1: the laws of R33, and F read and written through them. -/
theorem flagsByteViewRoundTrips : Obligations.FlagsByteViewRoundTrips :=
  ⟨flagsToByte_eq_ofNat, fun _ => rfl, byteToFlags_flagsToByte, flagsToByte_and_lowNibble,
    flagsToByte_byteToFlags, fun _ => lowByte_concatBytes _ _, fun _ _ => rfl,
    fun s snap => by rw [loadSnapshot_eq], fun _ _ => matchesSnapshot_f, fun _ => rfl⟩

/-- Settles O2: every pair is a view by definition, and a word is its two bytes. -/
theorem pairsAreViewsOfTheCells : Obligations.PairsAreViewsOfTheCells := fun _ v =>
  ⟨rfl, rfl, rfl, rfl, rfl, rfl, rfl, rfl, rfl, rfl, rfl, rfl, rfl, rfl,
    concatBytes_high_low v, highByte_toNat v, lowByte_toNat v⟩

end Sys2Proof.Machine
end

section
/-! PROOFS. O4: a write of the byte that stands there changes nothing, because canonical memories that read alike
are equal. -/

namespace Sys2Proof.Machine

/-- The idempotence of 20_memory.md R67: a write of the byte an address already reads as changes nothing. -/
theorem write_eq_self {s : State} (hs : s.mem.wf = true) {addr : Word} {v : Byte} (hread : s.read addr = v) :
    s.write addr v = s := by
  have hmem : s.mem.write addr.toNat v = s.mem := by
    refine wfFrom_ext (wf_write hs addr v) hs fun other _ => ?_
    rw [memory_read_write hs]
    split
    · rename_i heq
      rw [heq, ← hread]
      rfl
    · rfl
  rw [State.write, hmem]

/-- Settles O4: the read of a written memory, and twice the write of a byte that already stands there. -/
theorem everyAddressIsPlainMemory : Obligations.EveryAddressIsPlainMemory := by
  intro s addr v hs
  have hsame : (s.write addr v).read addr = v := by
    rw [read_write hs, if_pos rfl]
  have hother : ∀ other : Word, other ≠ addr → (s.write addr v).read other = s.read other := fun other hne => by
    rw [read_write hs, if_neg hne]
  exact ⟨hsame, hother, write_eq_self (wf_write_mem hs addr v) hsame, write_eq_self hs rfl, rfl⟩

end Sys2Proof.Machine
end

section
/-! PROOFS. O17: the opcode of each family, composed of its fields, decodes to the family's instruction. -/

namespace Sys2Proof.Machine

/-! ## The opcode of each family (30_encoding.md R94 to R101) -/

theorem decodeByte_ldOf (r r' : Reg8) :
    decodeByte (BitVec.ofNat 8 (0x40 + 8 * reg8Number r + reg8Number r')) false = some (.ldOf r r') := by
  cases r <;> cases r' <;> rfl

theorem decodeByte_ldIndHlOf (r : Reg8) :
    decodeByte (BitVec.ofNat 8 (0x46 + 8 * reg8Number r)) false = some (.ldIndHlOf r) := by
  cases r <;> rfl

theorem decodeByte_stIndHlOf (r : Reg8) :
    decodeByte (BitVec.ofNat 8 (0x70 + reg8Number r)) false = some (.stIndHlOf r) := by
  cases r <;> rfl

theorem decodeByte_ldN8Of (r : Reg8) :
    decodeByte (BitVec.ofNat 8 (0x06 + 8 * reg8Number r)) false = some (.ldN8Of r) := by
  cases r <;> rfl

theorem decodeByte_incOf (x : Loc8) :
    decodeByte (BitVec.ofNat 8 (0x04 + 8 * x.field)) false = some (.incOf x) := by
  cases x <;> rfl

theorem decodeByte_decOf (x : Loc8) :
    decodeByte (BitVec.ofNat 8 (0x05 + 8 * x.field)) false = some (.decOf x) := by
  cases x <;> rfl

theorem decodeByte_ldN16Of (p : Pair) :
    decodeByte (BitVec.ofNat 8 (0x01 + 16 * p.field)) false = some (.ldN16Of p) := by
  cases p <;> rfl

theorem decodeByte_incPairOf (p : Pair) :
    decodeByte (BitVec.ofNat 8 (0x03 + 16 * p.field)) false = some (.incPairOf p) := by
  cases p <;> rfl

theorem decodeByte_decPairOf (p : Pair) :
    decodeByte (BitVec.ofNat 8 (0x0B + 16 * p.field)) false = some (.decPairOf p) := by
  cases p <;> rfl

theorem decodeByte_addHlOf (p : Pair) :
    decodeByte (BitVec.ofNat 8 (0x09 + 16 * p.field)) false = some (.addHlOf p) := by
  cases p <;> rfl

theorem decodeByte_pushOf (p : StkPair) :
    decodeByte (BitVec.ofNat 8 (0xC5 + 16 * p.field)) false = some (.pushOf p) := by
  cases p <;> rfl

theorem decodeByte_popOf (p : StkPair) :
    decodeByte (BitVec.ofNat 8 (0xC1 + 16 * p.field)) false = some (.popOf p) := by
  cases p <;> rfl

theorem decodeByte_stMemOf (m : MemMode) :
    decodeByte (BitVec.ofNat 8 (0x02 + 16 * m.field)) false = some (.stMemOf m) := by
  cases m <;> rfl

theorem decodeByte_ldMemOf (m : MemMode) :
    decodeByte (BitVec.ofNat 8 (0x0A + 16 * m.field)) false = some (.ldMemOf m) := by
  cases m <;> rfl

theorem decodeByte_jpOf (cc : Cond) :
    decodeByte (BitVec.ofNat 8 (0xC2 + 8 * cc.field)) false = some (.jpOf cc) := by
  cases cc <;> rfl

theorem decodeByte_jrOf (cc : Cond) :
    decodeByte (BitVec.ofNat 8 (0x20 + 8 * cc.field)) false = some (.jrOf cc) := by
  cases cc <;> rfl

theorem decodeByte_callOf (cc : Cond) :
    decodeByte (BitVec.ofNat 8 (0xC4 + 8 * cc.field)) false = some (.callOf cc) := by
  cases cc <;> rfl

theorem decodeByte_retOf (cc : Cond) :
    decodeByte (BitVec.ofNat 8 (0xC0 + 8 * cc.field)) false = some (.retOf cc) := by
  cases cc <;> rfl

theorem decodeByte_aluOf_reg (op : AluOp) (r : Reg8) :
    decodeByte (BitVec.ofNat 8 (0x80 + 8 * op.field + reg8Number r)) false = some (.aluOf op (.reg r)) := by
  cases op <;> cases r <;> rfl

theorem decodeByte_aluOf_indHl (op : AluOp) :
    decodeByte (BitVec.ofNat 8 (0x86 + 8 * op.field)) false = some (.aluOf op .indHl) := by
  cases op <;> rfl

theorem decodeByte_aluOf_n8 (op : AluOp) :
    decodeByte (BitVec.ofNat 8 (0xC6 + 8 * op.field)) false = some (.aluOf op .n8) := by
  cases op <;> rfl

theorem decodeByte_rstOf : ∀ tgt : Fin 8,
    decodeByte (BitVec.ofNat 8 (0xC7 + 8 * tgt.val)) false = some (.rstOf tgt) := by
  decide

theorem decodeByte_rotOf (op : RotOp) (x : Loc8) :
    decodeByte (BitVec.ofNat 8 (8 * op.field + x.field)) true = some (.rotOf op x) := by
  cases op <;> cases x <;> rfl

theorem decodeByte_bitBR (n : BitVec 3) (x : Loc8) :
    decodeByte (BitVec.ofNat 8 (0x40 + 8 * n.toNat + x.field)) true = some (.bitBR n x) := by
  cases x <;> revert n <;> decide

theorem decodeByte_resBR (n : BitVec 3) (x : Loc8) :
    decodeByte (BitVec.ofNat 8 (0x80 + 8 * n.toNat + x.field)) true = some (.resBR n x) := by
  cases x <;> revert n <;> decide

theorem decodeByte_setBR (n : BitVec 3) (x : Loc8) :
    decodeByte (BitVec.ofNat 8 (0xC0 + 8 * n.toNat + x.field)) true = some (.setBR n x) := by
  cases x <;> revert n <;> decide

theorem zext16_rstTarget : ∀ tgt : Fin 8, zext16 (BitVec.ofNat 8 (8 * tgt.val)) = BitVec.ofNat 16 (8 * tgt.val) := by
  decide

theorem exec_rstOf_pc {tgt : Fin 8} {s t : State} (h : exec (.rstOf tgt) s = .next t) :
    t.pc = BitVec.ofNat 16 (8 * tgt.val) := by
  rw [exec_rstOf] at h
  cases h
  exact zext16_rstTarget tgt

theorem condHolds_eq_decide (f : Flags) :
    condHolds .nz f = decide (f.z = false) ∧ condHolds .z f = decide (f.z = true) ∧
      condHolds .nc f = decide (f.c = false) ∧ condHolds .c f = decide (f.c = true) := by
  simp [condHolds]

/-- Settles O17: the numbers of the fields by definition, the opcodes by the lemma of each family. -/
theorem opcodeFieldsSelectTheOperands : Obligations.OpcodeFieldsSelectTheOperands :=
  ⟨⟨rfl, rfl, rfl, rfl, rfl, rfl, rfl, rfl⟩, ⟨rfl, rfl, rfl, rfl, rfl, rfl, rfl⟩, ⟨rfl, rfl, rfl, rfl⟩,
    ⟨rfl, rfl, rfl, rfl⟩, ⟨rfl, rfl, rfl, rfl⟩, ⟨rfl, rfl, rfl, rfl⟩, ⟨rfl, rfl, rfl, rfl, rfl, rfl, rfl, rfl⟩,
    fun _ => rfl, fun _ => ⟨rfl, rfl, rfl, rfl, rfl, rfl, rfl, rfl⟩, condHolds_eq_decide, ⟨rfl, rfl, rfl, rfl⟩,
    fun _ _ _ => exec_rstOf_pc, fun _ => rfl, decodeByte_ldOf, decodeByte_ldIndHlOf, decodeByte_stIndHlOf,
    decodeByte_ldN8Of, decodeByte_incOf, decodeByte_decOf,
    fun p => ⟨decodeByte_ldN16Of p, decodeByte_incPairOf p, decodeByte_decPairOf p, decodeByte_addHlOf p⟩,
    fun p => ⟨decodeByte_pushOf p, decodeByte_popOf p⟩,
    fun m => ⟨decodeByte_stMemOf m, decodeByte_ldMemOf m⟩,
    fun cc => ⟨decodeByte_jpOf cc, decodeByte_jrOf cc, decodeByte_callOf cc, decodeByte_retOf cc⟩,
    fun op r => ⟨decodeByte_aluOf_reg op r, decodeByte_aluOf_indHl op, decodeByte_aluOf_n8 op⟩,
    decodeByte_rstOf,
    fun x => ⟨decodeByte_rotOf .rlc x, decodeByte_rotOf .rrc x, decodeByte_rotOf .rl x, decodeByte_rotOf .rr x,
      decodeByte_rotOf .sla x, decodeByte_rotOf .sra x, decodeByte_rotOf .swap x, decodeByte_rotOf .srl x⟩,
    fun n x => ⟨decodeByte_bitBR n x, decodeByte_resBR n x, decodeByte_setBR n x⟩⟩

end Sys2Proof.Machine
end

section
/-! PROOFS. O15: a well-formed instruction is a CB entry, a plain entry, or one of the eleven empty cells, and each of
the three has its bytes. -/

namespace Sys2Proof.Machine

/-! ## Which instruction a well-formed term is (30_encoding.md R104 to R106) -/

theorem plainTable_opcodeBytes :
    ∀ b : Byte, ∀ i ∈ plainTable.getD b.toNat none, i.opcodeBytes = [b] := by
  decide

/-- STOP alone has its format, and 0xCB alone has the CB format in the plain table. -/
theorem plainTable_format : ∀ b : Byte, ∀ i ∈ plainTable.getD b.toNat none,
    (i.format = .stop → b = 0x10) ∧ (i.format = .cb → i = .prefixCb) := by
  decide

/-- A plain entry that its own first byte decodes to. -/
theorem exists_decodeByte {i : Instr} (h : decodeByte (i.opcodeBytes.headD 0) false = some i) :
    ∃ b, decodeByte b false = some i := ⟨_, h⟩

/-- A well-formed instruction is an entry of one of the two tables, or stands for one of the eleven empty cells. -/
theorem wellFormed_cases {i : Instr} (hi : WellFormed i = true) :
    (∃ op, i = .cbOf op) ∨ (∃ b ∈ unusedOpcodes, i = .noTableEntry b) ∨ ∃ b, decodeByte b false = some i := by
  induction i using instr_families with
  | rot op x => exact .inl ⟨.rot op x, rfl⟩
  | bit n x => exact .inl ⟨.bit n x, rfl⟩
  | res n x => exact .inl ⟨.res n x, rfl⟩
  | set n x => exact .inl ⟨.set n x, rfl⟩
  | noTableEntry op => exact .inr (.inl ⟨op, List.contains_iff_mem.mp hi, rfl⟩)
  | prefixCb => cases hi
  | ld r r' => exact .inr (.inr ⟨_, decodeByte_ldOf r r'⟩)
  | ldIndHl r => exact .inr (.inr ⟨_, decodeByte_ldIndHlOf r⟩)
  | stIndHl r => exact .inr (.inr ⟨_, decodeByte_stIndHlOf r⟩)
  | ldN8 r => exact .inr (.inr ⟨_, decodeByte_ldN8Of r⟩)
  | stMem m => exact .inr (.inr ⟨_, decodeByte_stMemOf m⟩)
  | ldMem m => exact .inr (.inr ⟨_, decodeByte_ldMemOf m⟩)
  | ldN16 p => exact .inr (.inr ⟨_, decodeByte_ldN16Of p⟩)
  | incPair p => exact .inr (.inr ⟨_, decodeByte_incPairOf p⟩)
  | decPair p => exact .inr (.inr ⟨_, decodeByte_decPairOf p⟩)
  | addHl p => exact .inr (.inr ⟨_, decodeByte_addHlOf p⟩)
  | push p => exact .inr (.inr ⟨_, decodeByte_pushOf p⟩)
  | pop p => exact .inr (.inr ⟨_, decodeByte_popOf p⟩)
  | jpCc cc => exact .inr (.inr ⟨_, decodeByte_jpOf cc⟩)
  | jrCc cc => exact .inr (.inr ⟨_, decodeByte_jrOf cc⟩)
  | callCc cc => exact .inr (.inr ⟨_, decodeByte_callOf cc⟩)
  | retCc cc => exact .inr (.inr ⟨_, decodeByte_retOf cc⟩)
  | rst t => exact .inr (.inr ⟨_, decodeByte_rstOf t⟩)
  | inc x => exact .inr (.inr ⟨_, decodeByte_incOf x⟩)
  | dec x => exact .inr (.inr ⟨_, decodeByte_decOf x⟩)
  | alu op src =>
    cases src with
    | reg r => exact .inr (.inr ⟨_, decodeByte_aluOf_reg op r⟩)
    | indHl => exact .inr (.inr ⟨_, decodeByte_aluOf_indHl op⟩)
    | n8 => exact .inr (.inr ⟨_, decodeByte_aluOf_n8 op⟩)
  | accRot op => exact .inr (.inr (exists_decodeByte (by cases op <;> rfl)))
  | _ => exact .inr (.inr (exists_decodeByte rfl))

/-! ## The bytes of an encoding (30_encoding.md R92) -/

theorem encode_cbOf (op : CbOp) (imm : Word) : ∃ b, encode (.cbOf op) imm = [0xCB, b] := by
  cases op with
  | rot op x => cases op <;> exact ⟨_, rfl⟩
  | bit n x => exact ⟨_, rfl⟩
  | res n x => exact ⟨_, rfl⟩
  | set n x => exact ⟨_, rfl⟩

theorem format_cbOf (op : CbOp) : (Instr.cbOf op).format = .cb := by
  cases op with
  | rot op x => cases op <;> rfl
  | bit n x => rfl
  | res n x => rfl
  | set n x => rfl

theorem length_cbOf (op : CbOp) : (Instr.cbOf op).length = 2 := by
  rw [Instr.length, format_cbOf]
  rfl

/-- What a plain entry is encoded as: its opcode, and what its format adds to it; only STOP's own opcode has its
format. -/
theorem encode_of_decodeByte {i : Instr} {b : Byte} (hi : WellFormed i = true) (hb : decodeByte b false = some i)
    (imm : Word) :
    encode i imm = b :: immediateOf i.format.immediateBytes imm ∧ i.format ≠ .cb ∧ (i.format = .stop → b = 0x10) := by
  obtain ⟨hstop, hcb⟩ := plainTable_format b i hb
  refine ⟨by rw [encode, plainTable_opcodeBytes b i hb]; rfl, fun hf => ?_, hstop⟩
  rw [hcb hf] at hi
  cases hi

theorem encode_length {i : Instr} (hi : WellFormed i = true) (imm : Word) : (encode i imm).length = i.length := by
  obtain ⟨op, rfl⟩ | ⟨b, -, rfl⟩ | ⟨b, hb⟩ := wellFormed_cases hi
  · obtain ⟨b, hbytes⟩ := encode_cbOf op imm
    rw [hbytes, length_cbOf]
    rfl
  · rfl
  · obtain ⟨hbytes, hcb, -⟩ := encode_of_decodeByte hi hb imm
    rw [hbytes, Instr.length]
    cases hf : i.format with
    | cb => exact absurd hf hcb
    | _ => rfl

/-- The decoder reads a plain entry back from its opcode. -/
theorem decodeRow_of_decodeByte {i : Instr} {b : Byte} (hi : WellFormed i = true) (hb : decodeByte b false = some i)
    (b1 : Byte) : decodeRow b b1 = i := by
  have hne : b ≠ 0xCB := by
    rintro rfl
    cases hb
    cases hi
  have hentry : decodeEntry b b1 = some i := (decodeEntry_plain hne b1).trans hb
  rw [decodeRow, hentry]
  rfl

theorem decodeRow_of_unused {b : Byte} (hb : b ∈ unusedOpcodes) (b1 : Byte) : decodeRow b b1 = .noTableEntry b := by
  rw [decodeRow, (decodeEntry_eq_none_iff b b1).mpr hb]
  rfl

/-- Byte 0 alone tells the length (30_encoding.md R92). -/
theorem length_eq_of_encode {i : Instr} (hi : WellFormed i = true) (imm : Word) :
    ∃ b, (encode i imm).head? = some b ∧ i.length = (decodeRow b 0).length := by
  obtain ⟨op, rfl⟩ | ⟨b, hb, rfl⟩ | ⟨b, hb⟩ := wellFormed_cases hi
  · obtain ⟨b, hbytes⟩ := encode_cbOf op imm
    refine ⟨0xCB, by rw [hbytes]; rfl, ?_⟩
    rw [length_cbOf]
    rfl
  · exact ⟨b, rfl, by rw [decodeRow_of_unused hb]⟩
  · obtain ⟨hbytes, -, -⟩ := encode_of_decodeByte hi hb imm
    exact ⟨b, by rw [hbytes]; rfl, by rw [decodeRow_of_decodeByte hi hb]⟩

/-- Settles O15: the three kinds of instruction, each with its bytes. -/
theorem formatsLayOutTheBytes : Obligations.FormatsLayOutTheBytes := by
  refine ⟨fun i imm hi => ?_, fun i imm hi => encode_length hi imm, fun i j imm imm' hi hj hhead => ?_⟩
  · obtain ⟨op, rfl⟩ | ⟨b, -, rfl⟩ | ⟨b, hb⟩ := wellFormed_cases hi
    · rw [format_cbOf]
      exact encode_cbOf op imm
    · exact ⟨b, rfl⟩
    · obtain ⟨hbytes, hcb, hstop⟩ := encode_of_decodeByte hi hb imm
      rw [hbytes]
      cases hf : i.format with
      | cb => exact absurd hf hcb
      | stop => rw [hstop hf]; rfl
      | _ => exact ⟨b, rfl⟩
  · obtain ⟨b, hb, hlen⟩ := length_eq_of_encode hi imm
    obtain ⟨b', hb', hlen'⟩ := length_eq_of_encode hj imm'
    rw [hb, hb', Option.some.injEq] at hhead
    rw [hlen, hlen', hhead]

end Sys2Proof.Machine
end

section
/-! PROOFS. O11, O16 and O19: the cells without an entry, the instruction a step decodes, and the PC advance of every
instruction that transfers no control. -/

namespace Sys2Proof.Machine

/-! ## The instruction at PC (30_encoding.md R90, R106) -/

theorem step_unused {s : State} (hrun : s.status = .running) (hunused : s.read s.pc ∈ unusedOpcodes) :
    step s = .next (s.raiseDecodeError s.opcode) :=
  step_noEntry hrun ((fetchEntry_eq_none_iff s).mpr hunused)

/-- Settles O11: the plain table is empty at the eleven bytes, and a step there raises DecodeError. -/
theorem elevenOpcodesHaveNoEntry : Obligations.ElevenOpcodesHaveNoEntry :=
  ⟨plainTable_eq_none_iff, fun _ => rfl, fun _ hrun hnone =>
    ⟨_, step_unused hrun ((plainTable_eq_none_iff _).mp hnone), rfl⟩⟩

theorem wellFormed_cbOf (op : CbOp) : WellFormed (.cbOf op) = true := by
  cases op with
  | rot op x => cases op <;> rfl
  | bit n x => rfl
  | res n x => rfl
  | set n x => rfl

theorem wellFormed_of_decodeByte {b : Byte} {i : Instr} (hb : decodeByte b false = some i) (hne : b ≠ 0xCB) :
    WellFormed i = true := by
  have hmem : some i ∈ plainTable := by
    rw [decodeByte, List.getD_eq_getElem?_getD, Option.getD_eq_iff] at hb
    obtain hcell | ⟨-, hnone⟩ := hb
    · exact List.mem_of_getElem? hcell
    · cases hnone
  have hrow : (WellFormed i || i == .prefixCb) = true := List.all_eq_true.mp plainTable_wellFormed _ hmem
  obtain hi | hprefix := (Bool.or_eq_true ..).mp hrow
  · exact hi
  · cases eq_of_beq hprefix
    exact absurd (List.head_eq_of_cons_eq (plainTable_opcodeBytes b .prefixCb hb)).symm hne

theorem decodeRow_wellFormed (b0 b1 : Byte) : WellFormed (decodeRow b0 b1) = true := by
  unfold decodeRow
  cases h : decodeEntry b0 b1 with
  | none => exact List.contains_iff_mem.mpr ((decodeEntry_eq_none_iff b0 b1).mp h)
  | some i =>
    by_cases hcb : b0 = 0xCB
    · subst hcb
      cases h
      exact wellFormed_cbOf _
    · exact wellFormed_of_decodeByte ((decodeEntry_plain hcb b1).symm.trans h) hcb

/-- The bytes at PC decode to the entry fetched, or to the row of an opcode without one. -/
theorem fetchEntry_of_decode {s : State} {i : Instr} {rest : List Byte} (h : decode s.fetchBytes = .ok (i, rest)) :
    s.fetchEntry = some i ∨ s.fetchEntry = none ∧ i = .noTableEntry (s.read s.pc) := by
  rw [decode_fetchBytes, Except.ok.injEq, Prod.mk.injEq] at h
  obtain ⟨hrow, -⟩ := h
  have hget : s.fetchEntry.getD (.noTableEntry (s.read s.pc)) = i := hrow
  cases hf : s.fetchEntry with
  | some j => exact .inl (by rw [← hget, hf]; rfl)
  | none => exact .inr ⟨rfl, by rw [← hget, hf]; rfl⟩

theorem execute_of_exec {i : Instr} {s t : State} (h : exec i s = .next t) :
    execute i s = some ({ t with pc := s.pc }, t.pc) := by
  rw [execute, h]
  rfl

/-- Settles O19: the bytes at PC decode to what `step` fetches. -/
theorem stepRunsTheDecodedInstruction : Obligations.StepRunsTheDecodedInstruction := by
  refine ⟨fun s => ⟨_, _, decode_fetchBytes s, decodeRow_wellFormed _ _⟩, fun s i rest hrun hdec hentry => ?_,
    fun s op rest hrun hdec => ?_, fun s t hstatus h => hstatus (step_next_cases h).1, fun _ _ _ => execute_of_exec⟩
  · obtain hf | ⟨-, rfl⟩ := fetchEntry_of_decode hdec
    · rw [step_entry hrun hf, promoteEi_eq]
    · exact absurd rfl (hentry _)
  · obtain hf | ⟨hf, hop⟩ := fetchEntry_of_decode hdec
    · exact absurd hf (fetchEntry_ne_noTableEntry s op)
    · cases hop
      exact ⟨rfl, step_noEntry hrun hf, step_noEntry hrun hf⟩

/-! ## The PC advance (30_encoding.md R91) -/

/-- The instruction leaves PC behind its last byte. -/
def Advances (i : Instr) (s : State) : Prop :=
  ∃ t, exec i s = .next t ∧ t.pc = s.pc + BitVec.ofNat 16 i.length

theorem writeLoc_pc (s : State) (x : Loc8) (v : Byte) : (s.writeLoc x v).pc = s.pc := by
  cases x <;> rfl

theorem advances_of_advance {i : Instr} {s u : State} {n : Word} (hexec : exec i s = .next (u.advance n))
    (hpc : u.pc = s.pc) (hlen : BitVec.ofNat 16 i.length = n) : Advances i s :=
  ⟨_, hexec, by rw [advance_pc, hpc, hlen]⟩

theorem advances_cbOf (op : CbOp) (s : State) : Advances (.cbOf op) s := by
  have hlen : BitVec.ofNat 16 (Instr.cbOf op).length = 2 := by rw [length_cbOf]; rfl
  cases op with
  | rot op x => exact advances_of_advance (exec_rotOf op x s) (writeLoc_pc s x _) hlen
  | bit n x => exact advances_of_advance rfl rfl hlen
  | res n x => exact advances_of_advance rfl (writeLoc_pc s x _) hlen
  | set n x => exact advances_of_advance rfl (writeLoc_pc s x _) hlen

theorem advances_prefixCb (s : State) : Advances .prefixCb s := by
  obtain ⟨t, hexec, hpc⟩ := advances_cbOf (decodeCb s.imm8) s
  rw [length_cbOf] at hpc
  exact ⟨t, (exec_prefixCb s).trans hexec, hpc⟩

theorem memModeStep_pc (s : State) (m : MemMode) : (s.memModeStep m).pc = s.pc := by
  cases m <;> rfl

theorem aluLength_eq (op : AluOp) (src : AluSrc) : BitVec.ofNat 16 (Instr.aluOf op src).length = aluLength src := by
  rcases src with (_ | _) | _ | _ <;> cases op <;> rfl

/-- Every instruction that transfers no control advances PC by its length. -/
theorem advances_of_not_transfersControl {i : Instr} (hi : transfersControl i = false)
    (hentry : ∀ op, i ≠ .noTableEntry op) (s : State) : Advances i s := by
  induction i using instr_families with
  | ld r r' => exact advances_of_advance (exec_ldOf r r' s) (setReg_pc ..) (by cases r <;> cases r' <;> rfl)
  | ldIndHl r => exact advances_of_advance (exec_ldIndHlOf r s) (setReg_pc ..) (by cases r <;> rfl)
  | stIndHl r => exact advances_of_advance (exec_stIndHlOf r s) (write_pc ..) (by cases r <;> rfl)
  | ldN8 r => exact advances_of_advance (exec_ldN8Of r s) (setReg_pc ..) (by cases r <;> rfl)
  | stMem m => exact advances_of_advance (exec_stMemOf m s) (memModeStep_pc ..) (by cases m <;> rfl)
  | ldMem m => exact advances_of_advance (exec_ldMemOf m s) (memModeStep_pc ..) (by cases m <;> rfl)
  | ldN16 p => exact advances_of_advance (exec_ldN16Of p s) (setPair_pc ..) (by cases p <;> rfl)
  | incPair p => exact advances_of_advance (exec_incPairOf p s) (setPair_pc ..) (by cases p <;> rfl)
  | decPair p => exact advances_of_advance (exec_decPairOf p s) (setPair_pc ..) (by cases p <;> rfl)
  | addHl p => exact advances_of_advance (exec_addHlOf p s) rfl (by cases p <;> rfl)
  | push p => exact advances_of_advance (exec_pushOf p s) rfl (by cases p <;> rfl)
  | pop p => exact advances_of_advance (exec_popOf p s) (setStkPair_pc ..) (by cases p <;> rfl)
  | jpCc cc | jrCc cc | callCc cc | retCc cc => cases cc <;> cases hi
  | rst t => fin_cases t <;> cases hi
  | inc x => exact advances_of_advance (exec_incOf x s) (writeLoc_pc s x _) (by cases x <;> rfl)
  | dec x => exact advances_of_advance (exec_decOf x s) (writeLoc_pc s x _) (by cases x <;> rfl)
  | alu op src => exact advances_of_advance (exec_aluOf op src s) rfl (aluLength_eq op src)
  | accRot op => exact advances_of_advance (exec_accRotOf op s) rfl (by cases op <;> rfl)
  | rot op x => exact advances_cbOf (.rot op x) s
  | bit n x => exact advances_cbOf (.bit n x) s
  | res n x => exact advances_cbOf (.res n x) s
  | set n x => exact advances_cbOf (.set n x) s
  | noTableEntry op => exact absurd rfl (hentry op)
  | halt => exact ⟨_, exec_halt s, rfl⟩
  | stop => exact ⟨_, exec_stop s, rfl⟩
  | prefixCb => exact advances_prefixCb s
  | jrE8 | jpA16 | ret | callA16 | reti | jpHl => cases hi
  | _ => exact ⟨_, rfl, rfl⟩

/-- Settles O16: the length by the format, and the PC after each family. -/
theorem lengthIsThePcAdvance : Obligations.LengthIsThePcAdvance := by
  refine ⟨fun i => ?_, fun p => by cases p <;> rfl, rfl, length_cbOf, fun cc => by cases cc <;> rfl, rfl, rfl, rfl,
    fun i s t hi hentry h => ?_, fun op s t h => ?_⟩
  · rw [Instr.length]
    cases i.format <;> rfl
  · obtain ⟨t', hexec, hpc⟩ := advances_of_not_transfersControl hi hentry s
    cases h.symm.trans hexec
    exact hpc
  · cases h
    rfl

end Sys2Proof.Machine
end

section
/-! PROOFS. O37, O29 to O36 and O39: 8-bit arithmetic and logic. An accumulator operation puts `aluResult` of A and the
operand into A and F; each result function is then read as numbers, with the flags spelled as the rules spell them. -/

namespace Sys2Proof.Machine

/-! ## Bytes as numbers (00_scope.md R9) -/

theorem lowNibble_eq (v : Byte) : lowNibble v = v.toNat % 16 := by
  rw [lowNibble, BitVec.toNat_and]
  exact Nat.and_two_pow_sub_one_eq_mod _ 4

theorem byte_ofNat_eq_zero_iff (n : Nat) : BitVec.ofNat 8 n = 0 ↔ n % 256 = 0 := by
  rw [← BitVec.toNat_inj, BitVec.toNat_ofNat]
  rfl

theorem byte_ofInt_eq_zero_iff (d : Int) : BitVec.ofInt 8 d = 0 ↔ d % 256 = 0 := by
  rw [← BitVec.toNat_inj, BitVec.toNat_ofInt]
  change (d % 256).toNat = 0 ↔ _
  omega

theorem byte_add_ofNat (v : Byte) (n : Nat) : v + BitVec.ofNat 8 n = BitVec.ofNat 8 (v.toNat + n) := by
  rw [BitVec.ofNat_add, BitVec.ofNat_toNat, BitVec.setWidth_eq]

theorem byte_sub_ofNat (v : Byte) (n : Nat) : v - BitVec.ofNat 8 n = BitVec.ofInt 8 (v.toNat - n) := by
  rw [Int.sub_eq_add_neg, BitVec.ofInt_add, BitVec.ofInt_neg, BitVec.ofInt_natCast, BitVec.ofInt_natCast,
    BitVec.ofNat_toNat, BitVec.setWidth_eq, BitVec.sub_eq_add_neg]

/-! ## DAA (40_alu8.md R141) -/

/-- The two parts of the adjustment share no bit, so joining them is adding them. -/
theorem daaAdjustment_eq (low high : Prop) [Decidable low] [Decidable high] :
    ((if low then 0x06 else 0) ||| (if high then 0x60 else 0) : Byte) =
      BitVec.ofNat 8 ((if low then 6 else 0) + if high then 0x60 else 0) := by
  split_ifs <;> rfl

theorem daaResult_of_add (a : Byte) {f : Flags} (hn : f.n = false) :
    daaResult a f =
      let low := if f.h = true ∨ a.toNat % 16 > 9 then 6 else 0
      let high := if f.c = true ∨ a.toNat > 0x99 then 0x60 else 0
      (BitVec.ofNat 8 (a.toNat + low + high),
        { z := decide ((a.toNat + low + high) % 256 = 0), n := f.n, h := false
          c := decide (f.c = true ∨ a.toNat > 0x99) }) := by
  simp only [daaResult, daaAdjustment_eq, byte_add_ofNat, byte_ofNat_eq_zero_iff, lowNibble_eq, hn, Nat.add_assoc,
    Bool.not_false, Bool.true_and, Bool.or_eq_true, decide_eq_true_eq, Bool.false_eq_true, if_false, Bool.decide_or,
    Bool.decide_eq_true]

theorem daaResult_of_sub (a : Byte) {f : Flags} (hn : f.n = true) :
    daaResult a f =
      let low : Int := if f.h = true then 6 else 0
      let high : Int := if f.c = true then 0x60 else 0
      (BitVec.ofInt 8 (a.toNat - low - high),
        { z := decide ((a.toNat - low - high) % 256 = 0), n := f.n, h := false, c := f.c }) := by
  simp only [daaResult, daaAdjustment_eq, byte_sub_ofNat, byte_ofInt_eq_zero_iff, hn, Int.sub_sub, Nat.cast_add,
    Nat.cast_ite, Nat.cast_ofNat, Nat.cast_zero, Bool.not_true, Bool.false_and, Bool.or_false, if_true]

theorem exec_daa (s : State) : exec .daa s = .next
    { s with a := (daaResult s.a s.f).1, f := (daaResult s.a s.f).2, pc := s.pc + 1 } := rfl

/-- Settles O37: the result of DAA in each of its two branches. -/
theorem daaAdjustsAsStated : Obligations.DaaAdjustsAsStated := by
  refine fun s => ⟨rfl, rfl, fun hn => ?_, fun hn => ?_⟩
  · rw [exec_daa, daaResult_of_add s.a hn]
  · rw [exec_daa, daaResult_of_sub s.a hn]

/-! ## The operand forms of an accumulator operation (40_alu8.md R130) -/

theorem aluOf_opcodeBytes (op : AluOp) (src : AluSrc) :
    (Instr.aluOf op src).opcodeBytes = [operandOpcode (0x80 + 8 * op.field) (0xC6 + 8 * op.field) src] := by
  rcases src with (_ | _) | _ | _ <;> cases op <;> rfl

theorem aluOf_length (op : AluOp) (src : AluSrc) : (Instr.aluOf op src).length = operandLength src := by
  rcases src with (_ | _) | _ | _ <;> cases op <;> rfl

theorem aluOperand_eq (s : State) (src : AluSrc) : s.aluOperand src = operandValue src s := by
  cases src <;> rfl

theorem aluLength_eq_operandLength (src : AluSrc) : aluLength src = BitVec.ofNat 16 (operandLength src) := by
  cases src <;> rfl

/-- An accumulator operation in one piece, from its result. -/
theorem exec_aluOf_of_aluResult (op : AluOp) (src : AluSrc) (s : State) {r : Byte × Flags}
    (h : aluResult op s.a (operandValue src s) s.f = r) :
    exec (.aluOf op src) s = .next
      { s with a := r.1, f := r.2, pc := s.pc + BitVec.ofNat 16 (operandLength src) } := by
  rw [exec_aluOf, accumulatorOp_eq, aluOperand_eq, aluLength_eq_operandLength, h]

/-! ## Sums and differences (40_alu8.md R131 to R134, R138) -/

theorem addBytes_eq (a v : Byte) (cin : Nat) :
    addBytes a v cin = (BitVec.ofNat 8 (a.toNat + v.toNat + cin),
      { z := decide ((a.toNat + v.toNat + cin) % 256 = 0), n := false
        h := decide (a.toNat % 16 + v.toNat % 16 + cin > 15), c := decide (a.toNat + v.toNat + cin > 255) }) := by
  rw [addBytes, lowNibble_eq, lowNibble_eq]

theorem int_sub_sub_neg_iff (a v cin : Nat) : (a : Int) - v - cin < 0 ↔ a < v + cin := by
  omega

theorem subBytes_eq (a v : Byte) (cin : Nat) :
    subBytes a v cin = (BitVec.ofInt 8 ((a.toNat : Int) - v.toNat - cin),
      { z := decide (((a.toNat : Int) - v.toNat - cin) % 256 = 0), n := true
        h := decide (a.toNat % 16 < v.toNat % 16 + cin), c := decide (a.toNat < v.toNat + cin) }) := by
  simp only [subBytes, lowNibble_eq, int_sub_sub_neg_iff]

theorem byte_sub_mod_eq_zero_iff (a v : Byte) : ((a.toNat : Int) - v.toNat) % 256 = 0 ↔ a.toNat = v.toNat := by
  have := a.isLt
  have := v.isLt
  omega

/-- Settles O29: a sum with no carry in. -/
theorem addSetsAccumulatorAndFlags : Obligations.AddSetsAccumulatorAndFlags := fun src s =>
  ⟨aluOf_opcodeBytes .add src, aluOf_length .add src, exec_aluOf_of_aluResult .add src s (addBytes_eq _ _ 0)⟩

/-- Settles O30: a sum with the old carry in. -/
theorem adcAddsTheCarryIn : Obligations.AdcAddsTheCarryIn := fun src s =>
  ⟨aluOf_opcodeBytes .adc src, aluOf_length .adc src,
    exec_aluOf_of_aluResult .adc src s (addBytes_eq _ _ (bitNat s.f.c))⟩

/-- Settles O31: a difference with no borrow in. -/
theorem subSetsAccumulatorAndFlags : Obligations.SubSetsAccumulatorAndFlags := by
  refine fun src s => ⟨aluOf_opcodeBytes .sub src, aluOf_length .sub src, ?_⟩
  have hresult := subBytes_eq s.a (operandValue src s) 0
  rw [Nat.cast_zero, Int.sub_zero] at hresult
  exact exec_aluOf_of_aluResult .sub src s hresult

/-- Settles O32: a difference with the old carry in. -/
theorem sbcSubtractsTheBorrowIn : Obligations.SbcSubtractsTheBorrowIn := fun src s =>
  ⟨aluOf_opcodeBytes .sbc src, aluOf_length .sbc src,
    exec_aluOf_of_aluResult .sbc src s (subBytes_eq _ _ (bitNat s.f.c))⟩

/-- Settles O34: the flags of a difference, where 0 modulo 256 is equality. -/
theorem cpSetsFlagsAndKeepsAccumulator : Obligations.CpSetsFlagsAndKeepsAccumulator := by
  refine fun src s => ⟨aluOf_opcodeBytes .cp src, aluOf_length .cp src, ?_⟩
  have hflags := congrArg Prod.snd (subBytes_eq s.a (operandValue src s) 0)
  simp only [Nat.cast_zero, Int.sub_zero, byte_sub_mod_eq_zero_iff] at hflags
  exact exec_aluOf_of_aluResult .cp src s (congrArg (Prod.mk s.a) hflags)

/-! ## AND, XOR and OR (40_alu8.md R135 to R137) -/

/-- Settles O33: the result functions are the rules' own. -/
theorem logicSetsAccumulatorAndFlags : Obligations.LogicSetsAccumulatorAndFlags := fun src s =>
  ⟨aluOf_opcodeBytes .and src, aluOf_opcodeBytes .xor src, aluOf_opcodeBytes .or src,
    aluOf_length .and src, aluOf_length .xor src, aluOf_length .or src, exec_aluOf_of_aluResult .and src s rfl,
    exec_aluOf_of_aluResult .xor src s rfl, exec_aluOf_of_aluResult .or src s rfl⟩

/-! ## INC and DEC of a location (40_alu8.md R139, R140) -/

theorem incByte_eq (old : Byte) (f : Flags) :
    incByte old f = (BitVec.ofNat 8 (old.toNat + 1),
      { z := decide ((old.toNat + 1) % 256 = 0), n := false, h := decide (old.toNat % 16 + 1 > 15), c := f.c }) := by
  have hnew : old + 1 = BitVec.ofNat 8 (old.toNat + 1) := byte_add_ofNat old 1
  simp only [incByte, hnew, byte_ofNat_eq_zero_iff, lowNibble_eq]

theorem decByte_eq (old : Byte) (f : Flags) :
    decByte old f = (BitVec.ofNat 8 (old.toNat + 255),
      { z := decide (old.toNat = 1), n := true, h := decide (old.toNat % 16 = 0), c := f.c }) := by
  have hnew : old - 1 = BitVec.ofNat 8 (old.toNat + 255) := by
    rw [← byte_add_ofNat]
    bv_omega
  have hzero : (old.toNat + 255) % 256 = 0 ↔ old.toNat = 1 := by
    have := old.isLt
    omega
  have hhalf : ((old.toNat % 16 : Nat) : Int) - 1 < 0 ↔ old.toNat % 16 = 0 := by
    omega
  simp only [decByte, hnew, byte_ofNat_eq_zero_iff, hzero, lowNibble_eq, hhalf]

/-- Settles O35: a read-modify-write of the location. -/
theorem incByteSetsLocationAndFlags : Obligations.IncByteSetsLocationAndFlags := by
  refine fun x s => ⟨by cases x <;> rfl, by cases x <;> rfl, ?_⟩
  rw [exec_incOf, incrementLoc_eq, incByte_eq]

/-- Settles O36: a read-modify-write of the location. -/
theorem decByteSetsLocationAndFlags : Obligations.DecByteSetsLocationAndFlags := by
  refine fun x s => ⟨by cases x <;> rfl, by cases x <;> rfl, ?_⟩
  rw [exec_decOf, decrementLoc_eq, decByte_eq]

/-! ## CPL, SCF and CCF (40_alu8.md R142 to R144) -/

/-- Settles O39: `cplFlags`, `scfFlags` and `ccfFlags` are the rules' own. -/
theorem cplScfCcfTouchOnlyTheirFlags : Obligations.CplScfCcfTouchOnlyTheirFlags :=
  ⟨rfl, rfl, rfl, rfl, rfl, rfl, fun _ => ⟨rfl, rfl, rfl⟩⟩

end Sys2Proof.Machine
end

section
/-! PROOFS. O40 to O42: 16-bit arithmetic. Sums, masks and the signed offset of words are read as numbers, and with
them the two result functions `addWords` and `spPlusOffset`. -/

namespace Sys2Proof.Machine

/-! ## Words as numbers (00_scope.md R9, R10) -/

theorem word_add_ofNat (v : Word) (n : Nat) : v + BitVec.ofNat 16 n = BitVec.ofNat 16 (v.toNat + n) := by
  rw [BitVec.ofNat_add, BitVec.ofNat_toNat, BitVec.setWidth_eq]

/-- The low `k` bits of a word are its remainder. -/
theorem word_and_lowMask_toNat (v : Word) {k : Nat} (hk : k ≤ 16) :
    (v &&& BitVec.ofNat 16 (2 ^ k - 1)).toNat = v.toNat % 2 ^ k := by
  have hmask : 2 ^ k - 1 < 2 ^ 16 := Nat.sub_one_lt_of_le (Nat.two_pow_pos k) (Nat.pow_le_pow_right (by decide) hk)
  rw [BitVec.toNat_and, BitVec.toNat_ofNat, Nat.mod_eq_of_lt hmask, Nat.and_two_pow_sub_one_eq_mod]

/-- A byte with bit 7 set is 256 less when signed, which is 65280 more modulo 65536. -/
theorem sext16_eq (v : Byte) :
    sext16 v = BitVec.ofNat 16 (if v.toNat < 128 then v.toNat else v.toNat + 65280) := by
  have hbyte := v.isLt
  apply BitVec.eq_of_toNat_eq
  rw [sext16, BitVec.toNat_signExtend, BitVec.msb_eq_decide, BitVec.toNat_setWidth, BitVec.toNat_ofNat]
  simp only [decide_eq_true_eq]
  split_ifs <;> omega

/-! ## ADD HL,rr (41_alu16.md R170) -/

theorem addWords_eq (h v : Word) (f : Flags) :
    addWords h v f = (BitVec.ofNat 16 (h.toNat + v.toNat),
      { z := f.z, n := false, h := decide (h.toNat % 4096 + v.toNat % 4096 > 4095)
        c := decide (h.toNat + v.toNat > 65535) }) := by
  have hlow (w : Word) : (w &&& 0xFFF).toNat = w.toNat % 4096 := word_and_lowMask_toNat w (k := 12) (by decide)
  rw [addWords, hlow, hlow]

theorem addHlOf_opcodeBytes (p : Pair) :
    (Instr.addHlOf p).opcodeBytes = [BitVec.ofNat 8 (0x09 + 16 * p.field)] := by
  cases p <;> rfl

theorem addHlOf_length (p : Pair) : (Instr.addHlOf p).length = 1 := by
  cases p <;> rfl

/-- Settles O40: the sum of HL and the pair, whichever pair it is. -/
theorem addHlSetsHlAndFlags : Obligations.AddHlSetsHlAndFlags := by
  refine fun p s => ⟨addHlOf_opcodeBytes p, addHlOf_length p, ?_⟩
  rw [exec_addHlOf, addToHl, addWords_eq]
  cases p <;> rfl

/-! ## INC rr and DEC rr (41_alu16.md R171, R172) -/

theorem word_ofNat_toNat_add_one (v : Word) : BitVec.ofNat 16 (v.toNat + 1) = v + 1 :=
  (word_add_ofNat v 1).symm

theorem word_ofNat_toNat_add_65535 (v : Word) : BitVec.ofNat 16 (v.toNat + 65535) = v - 1 := by
  rw [← word_add_ofNat]
  bv_omega

/-- Settles O41: a pair plus 1 or plus 65535 is the pair plus or minus 1. -/
theorem incDecPairWrapAndKeepFlags : Obligations.IncDecPairWrapAndKeepFlags := by
  refine ⟨fun p => by cases p <;> exact ⟨rfl, rfl, rfl, rfl⟩, fun s => ?_⟩
  simp only [word_ofNat_toNat_add_one, word_ofNat_toNat_add_65535]
  exact ⟨exec_incPairOf .bc s, exec_incPairOf .de s, exec_incPairOf .hl s, exec_incPairOf .sp s,
    exec_decPairOf .bc s, exec_decPairOf .de s, exec_decPairOf .hl s, exec_decPairOf .sp s⟩

/-! ## ADD SP,e8 and LD HL,SP+e8 (41_alu16.md R173, R174) -/

theorem spPlusOffset_eq (sp : Word) (o : Byte) :
    spPlusOffset sp o =
      (BitVec.ofNat 16 (sp.toNat + if o.toNat < 128 then o.toNat else o.toNat + 65280),
        { z := false, n := false, h := decide (sp.toNat % 16 + o.toNat % 16 > 15)
          c := decide (sp.toNat % 256 + o.toNat > 255) }) := by
  have hnibble : (sp &&& 0xF).toNat = sp.toNat % 16 := word_and_lowMask_toNat sp (k := 4) (by decide)
  have hbyte : (sp &&& 0xFF).toNat = sp.toNat % 256 := word_and_lowMask_toNat sp (k := 8) (by decide)
  rw [spPlusOffset, sext16_eq, word_add_ofNat, hnibble, hbyte, lowNibble_eq]

theorem spOffsetInto_of_spPlusOffset (dst : Pair) {s : State} {r : Word × Flags}
    (h : spPlusOffset s.sp s.imm8 = r) :
    spOffsetInto dst s = .next (((s.setPair dst r.1).setFlags r.2).advance 2) := by
  rw [spOffsetInto, h]

/-- Settles O42: one sum, put into SP or into HL. -/
theorem spOffsetFlagsComeFromTheLowByte : Obligations.SpOffsetFlagsComeFromTheLowByte := by
  refine ⟨rfl, rfl, rfl, rfl, fun s => ?_⟩
  have hsum := spPlusOffset_eq s.sp s.imm8
  exact ⟨spOffsetInto_of_spPlusOffset .sp hsum, spOffsetInto_of_spPlusOffset .hl hsum⟩

end Sys2Proof.Machine
end

section
/-! PROOFS. O43 and O44: rotates, shifts and SWAP. The parts `rotResult` joins do not overlap, so it is read as a sum,
which is the number `rotNumbers` gives; the bit shifted out is the carry number. -/

namespace Sys2Proof.Machine

/-! ## Bits of a byte as numbers (00_scope.md R9) -/

theorem bitByte_toNat (x : Bool) : (bitByte x).toNat = bitNat x := by
  cases x <;> rfl

theorem bitNat_lt (x : Bool) : bitNat x < 2 := by
  cases x <;> decide

theorem bitNat_decide_eq_one {n : Nat} (h : n < 2) : bitNat (decide (n = 1)) = n := by
  obtain rfl | rfl : n = 0 ∨ n = 1 := by omega
  · rfl
  · rfl

theorem byte_bit0_eq (v : Byte) : v.getLsbD 0 = decide (v.toNat % 2 = 1) := by
  rw [← BitVec.testBit_toNat, Nat.testBit_zero]

theorem byte_bit7_eq (v : Byte) : v.getLsbD 7 = decide (v.toNat / 128 = 1) := by
  have htop : v.toNat / 2 ^ 7 % 2 = v.toNat / 128 := by
    have := v.isLt
    omega
  rw [← BitVec.testBit_toNat, Nat.testBit_eq_decide_div_mod_eq, htop]

theorem bitNat_bit0 (v : Byte) : bitNat (v.getLsbD 0) = v.toNat % 2 := by
  rw [byte_bit0_eq, bitNat_decide_eq_one (by omega)]

theorem bitNat_bit7 (v : Byte) : bitNat (v.getLsbD 7) = v.toNat / 128 := by
  have := v.isLt
  rw [byte_bit7_eq, bitNat_decide_eq_one (by omega)]

/-! ## Shifted bytes as numbers -/

theorem byte_shiftLeft_toNat (v : Byte) (k : Nat) : (v <<< k).toNat = v.toNat * 2 ^ k % 2 ^ 8 := by
  rw [BitVec.toNat_shiftLeft, Nat.shiftLeft_eq]

theorem byte_shiftRight_toNat (v : Byte) (k : Nat) : (v >>> k).toNat = v.toNat / 2 ^ k := by
  rw [BitVec.toNat_ushiftRight, Nat.shiftRight_eq_div_pow]

/-- The bits shifted up and the bits put below them do not overlap: their disjunction is their sum. -/
theorem byte_shiftLeft_or_toNat (v lo : Byte) {k : Nat} (hk : k ≤ 8) (hlo : lo.toNat < 2 ^ k) :
    ((v <<< k) ||| lo).toNat = v.toNat * 2 ^ k % 2 ^ 8 + lo.toNat := by
  have hhigh : v.toNat * 2 ^ k % 2 ^ 8 = 2 ^ k * (v.toNat % 2 ^ (8 - k)) := by
    rw [← Nat.pow_sub_mul_pow 2 hk, Nat.mul_mod_mul_right, Nat.mul_comm]
  rw [BitVec.toNat_or, byte_shiftLeft_toNat, hhigh, ← Nat.two_pow_add_eq_or_of_lt hlo]

/-- A shift left by one with the bit `x` put in at the bottom. -/
theorem shiftInLow_toNat (v : Byte) (x : Bool) :
    ((v <<< 1) ||| bitByte x).toNat = v.toNat * 2 % 256 + bitNat x := by
  have hlow : (bitByte x).toNat < 2 ^ 1 := by
    rw [bitByte_toNat]
    exact bitNat_lt x
  rw [byte_shiftLeft_or_toNat v _ (by decide) hlow, bitByte_toNat]
  rfl

/-- A shift right by one with the bit `x` put in at the top. -/
theorem shiftInHigh_toNat (v : Byte) (x : Bool) :
    ((v >>> 1) ||| (bitByte x <<< 7)).toNat = v.toNat / 2 + bitNat x * 128 := by
  have hlow : (v >>> 1).toNat < 2 ^ 7 := by
    rw [byte_shiftRight_toNat]
    omega
  have := bitNat_lt x
  rw [BitVec.or_comm, byte_shiftLeft_or_toNat _ _ (by decide) hlow, bitByte_toNat, byte_shiftRight_toNat]
  omega

theorem byte_and_topBit (v : Byte) : v &&& (0x80 : Byte) = bitByte (v.getLsbD 7) <<< 7 := by
  calc v &&& (0x80 : Byte)
    _ = if v.getLsbD 7 then BitVec.twoPow 8 7 else 0 := BitVec.and_twoPow v 7
    _ = bitByte (v.getLsbD 7) <<< 7 := by cases v.getLsbD 7 <;> rfl

/-- A shift right by one that keeps the top bit. -/
theorem shiftKeepHigh_toNat (v : Byte) :
    ((v >>> 1) ||| (v &&& 0x80)).toNat = v.toNat / 2 + bitNat (v.getLsbD 7) * 128 := by
  rw [byte_and_topBit, shiftInHigh_toNat]

theorem swapHalves_toNat (v : Byte) : ((v <<< 4) ||| (v >>> 4)).toNat = v.toNat % 16 * 16 + v.toNat / 16 := by
  have hlow : (v >>> 4).toNat < 2 ^ 4 := by
    rw [byte_shiftRight_toNat]
    omega
  rw [byte_shiftLeft_or_toNat v _ (by decide) hlow, byte_shiftRight_toNat]
  omega

/-! ## The results and carries (42_rotate_shift.md R195 to R202) -/

theorem rotResult_fst_toNat (op : RotOp) (v : Byte) (cin : Bool) :
    (rotResult op v cin).1.toNat = (rotNumbers op v.toNat (bitNat cin)).1 := by
  cases op with
  | rlc => rw [rotResult, shiftInLow_toNat, bitNat_bit7, rotNumbers]
  | rrc => rw [rotResult, shiftInHigh_toNat, bitNat_bit0, rotNumbers]
  | rl => exact shiftInLow_toNat v cin
  | rr => exact shiftInHigh_toNat v cin
  | sla => exact byte_shiftLeft_toNat v 1
  | sra => rw [rotResult, shiftKeepHigh_toNat, bitNat_bit7, rotNumbers]
  | swap => exact swapHalves_toNat v
  | srl => exact byte_shiftRight_toNat v 1

theorem rotResult_snd (op : RotOp) (v : Byte) (cin : Bool) :
    (rotResult op v cin).2 = decide ((rotNumbers op v.toNat (bitNat cin)).2 = 1) := by
  cases op with
  | rlc | rl | sla => exact byte_bit7_eq v
  | rrc | rr | sra | srl => exact byte_bit0_eq v
  | swap => rfl

theorem rotResult_fst (op : RotOp) (v : Byte) (cin : Bool) :
    (rotResult op v cin).1 = BitVec.ofNat 8 (rotNumbers op v.toNat (bitNat cin)).1 := by
  rw [← rotResult_fst_toNat, BitVec.ofNat_toNat, BitVec.setWidth_eq]

/-- R194's flags from the numbers: the result number is below 256, so it is 0 when the byte is. -/
theorem rotFlags_rotResult (op : RotOp) (v : Byte) (cin : Bool) :
    rotFlags (rotResult op v cin).1 (rotResult op v cin).2 =
      { z := decide ((rotNumbers op v.toNat (bitNat cin)).1 = 0), n := false, h := false
        c := decide ((rotNumbers op v.toNat (bitNat cin)).2 = 1) } := by
  have hzero : (rotResult op v cin).1 = 0 ↔ (rotNumbers op v.toNat (bitNat cin)).1 = 0 := by
    rw [← rotResult_fst_toNat, ← BitVec.toNat_inj]
    rfl
  simp only [rotFlags, hzero, rotResult_snd]

/-! ## The accumulator rotates (42_rotate_shift.md R190 to R193) -/

theorem exec_accRotOf_numbers (op : AccRot) (s : State) :
    exec (.accRotOf op) s = .next
      { s with
        a := BitVec.ofNat 8 (rotNumbers (accRotOp op) s.a.toNat (bitNat s.f.c)).1
        f := accRotFlags (decide ((rotNumbers (accRotOp op) s.a.toNat (bitNat s.f.c)).2 = 1))
        pc := s.pc + 1 } := by
  rw [exec_accRotOf, rotateAccumulator_eq, rotResult_fst, rotResult_snd]

/-- Settles O43: A gets the result of the CB rotate of the same name, and Z is cleared apart from it. -/
theorem accumulatorRotatesClearZero : Obligations.AccumulatorRotatesClearZero := by
  refine ⟨rfl, rfl, rfl, rfl, fun op => by cases op <;> rfl, fun op s => ?_⟩
  have hexec := exec_accRotOf_numbers op s
  cases op <;> exact hexec

/-! ## The CB rotates, shifts and SWAP (42_rotate_shift.md R194) -/

theorem rotOf_opcodeBytes (op : RotOp) (x : Loc8) :
    (Instr.rotOf op x).opcodeBytes = [0xCB, BitVec.ofNat 8 (8 * op.field + x.field)] := by
  cases op <;> cases x <;> rfl

/-- Settles O44: the location is written once, with the number of its rule. -/
theorem cbRotatesSetLocationAndFlags : Obligations.CbRotatesSetLocationAndFlags := by
  refine fun op x s => ⟨rotOf_opcodeBytes op x, length_cbOf (.rot op x), ?_⟩
  rw [exec_rotOf, rotateLoc_eq, rotFlags_rotResult, rotResult_fst]
  rfl

end Sys2Proof.Machine
end

section
/-! PROOFS. O45 and O46: BIT, RES and SET. A byte is the sum of its bit `n` at its weight and of what `resetBit` leaves;
the two share no bit, and neither do what `resetBit` leaves and the mask that `setBit` puts back. -/

namespace Sys2Proof.Machine

/-! ## One bit of a byte as a number (43_bit.md) -/

theorem byte_bit_eq (v : Byte) (k : Nat) : v.getLsbD k = decide (v.toNat / 2 ^ k % 2 = 1) := by
  rw [← BitVec.testBit_toNat, Nat.testBit_eq_decide_div_mod_eq]

theorem bitTestFlags_eq (n : BitVec 3) (v : Byte) (f : Flags) :
    bitTestFlags n v f =
      { z := decide (v.toNat / 2 ^ n.toNat % 2 = 0), n := false, h := true, c := f.c } := by
  rw [bitTestFlags, byte_bit_eq, ← decide_not]
  simp only [Nat.mod_two_not_eq_one]

theorem bitMask_toNat (n : BitVec 3) : (bitMask n).toNat = 2 ^ n.toNat :=
  BitVec.toNat_twoPow_of_lt n.isLt

/-- The bit at its weight. -/
theorem and_bitMask_toNat (n : BitVec 3) (v : Byte) :
    (v &&& bitMask n).toNat = v.toNat / 2 ^ n.toNat % 2 * 2 ^ n.toNat := by
  rw [BitVec.toNat_and, bitMask_toNat, Nat.and_two_pow, Nat.toNat_testBit]

theorem resetBit_and_bitMask (n : BitVec 3) (v : Byte) : resetBit n v &&& bitMask n = 0 := by
  rw [resetBit, BitVec.and_assoc, BitVec.not_and_self]
  exact BitVec.and_zero

/-- A byte is what `resetBit` leaves and the bit it clears. -/
theorem resetBit_toNat_add (n : BitVec 3) (v : Byte) :
    (resetBit n v).toNat + v.toNat / 2 ^ n.toNat % 2 * 2 ^ n.toNat = v.toNat := by
  have hdisjoint : resetBit n v &&& (v &&& bitMask n) = 0 := by
    rw [BitVec.and_comm v, ← BitVec.and_assoc, resetBit_and_bitMask]
    exact BitVec.zero_and
  have hjoin : resetBit n v ||| (v &&& bitMask n) = v := by
    rw [resetBit, ← BitVec.and_or_distrib_left, BitVec.not_or_self, BitVec.and_allOnes]
  rw [← and_bitMask_toNat, ← BitVec.toNat_add_of_and_eq_zero hdisjoint,
    BitVec.add_eq_or_of_and_eq_zero _ _ hdisjoint, hjoin]

theorem setBit_eq_resetBit_or (n : BitVec 3) (v : Byte) : setBit n v = resetBit n v ||| bitMask n := by
  ext i
  simp [setBit, resetBit, Bool.or_and_distrib_right]

/-- `setBit` puts the mask where `resetBit` leaves room for it. -/
theorem setBit_toNat_eq_resetBit_add (n : BitVec 3) (v : Byte) :
    (setBit n v).toNat = (resetBit n v).toNat + 2 ^ n.toNat := by
  have hdisjoint := resetBit_and_bitMask n v
  rw [setBit_eq_resetBit_or, ← BitVec.add_eq_or_of_and_eq_zero _ _ hdisjoint,
    BitVec.toNat_add_of_and_eq_zero hdisjoint, bitMask_toNat]

theorem resetBit_toNat (n : BitVec 3) (v : Byte) :
    (resetBit n v).toNat = v.toNat - v.toNat / 2 ^ n.toNat % 2 * 2 ^ n.toNat :=
  Nat.eq_sub_of_add_eq (resetBit_toNat_add n v)

theorem setBit_toNat (n : BitVec 3) (v : Byte) :
    (setBit n v).toNat = v.toNat + (1 - v.toNat / 2 ^ n.toNat % 2) * 2 ^ n.toNat := by
  have hsum := resetBit_toNat_add n v
  rw [setBit_toNat_eq_resetBit_add]
  obtain hbit | hbit := Nat.mod_two_eq_zero_or_one (v.toNat / 2 ^ n.toNat)
  · rw [hbit] at hsum ⊢
    omega
  · rw [hbit] at hsum ⊢
    omega

theorem byte_eq_ofNat {v : Byte} {k : Nat} (h : v.toNat = k) : v = BitVec.ofNat 8 k := by
  rw [← h, BitVec.ofNat_toNat, BitVec.setWidth_eq]

/-! ## The instructions (43_bit.md R220 to R222) -/

theorem opcodeXyz_eq (x y z : Nat) : opcodeXyz x y z = BitVec.ofNat 8 (64 * x + 8 * y + z) := by
  rw [opcodeXyz, Nat.mul_comm x, Nat.mul_comm y]

/-- A write of a location leaves PC, so the advance counts from the old PC. -/
theorem advance_writeLoc (s : State) (x : Loc8) (v : Byte) (k : Word) :
    (s.writeLoc x v).advance k = { s.writeLoc x v with pc := s.pc + k } := by
  rw [← writeLoc_pc s x v]
  rfl

/-- Settles O45: the bit is read, and only F and PC are written. -/
theorem bitTestWritesOnlyFlags : Obligations.BitTestWritesOnlyFlags := by
  refine fun n x s => ⟨congrArg ([0xCB, ·]) (opcodeXyz_eq 1 n.toNat x.field), length_cbOf (.bit n x), ?_⟩
  rw [← bitTestFlags_eq]
  rfl

/-- Settles O46: the location is written once, with the byte that differs from the old one in the weight of one bit. -/
theorem resSetWriteOneBitAndNoFlag : Obligations.ResSetWriteOneBitAndNoFlag := by
  refine fun n x s => ⟨congrArg ([0xCB, ·]) (opcodeXyz_eq 2 n.toNat x.field),
    congrArg ([0xCB, ·]) (opcodeXyz_eq 3 n.toNat x.field), length_cbOf (.res n x), length_cbOf (.set n x), ?_, ?_⟩
  · rw [← byte_eq_ofNat (resetBit_toNat n (s.readLoc x)), ← advance_writeLoc]
    rfl
  · rw [← byte_eq_ofNat (setBit_toNat n (s.readLoc x)), ← advance_writeLoc]
    rfl

end Sys2Proof.Machine
end

section
/-! PROOFS. O47, O48 and O50 to O53: control transfer and the stack. Each opcode is read off the plain table; each
target and each stack move is put as the whole state it leaves, and an instruction on a condition chooses between two
of these. -/

namespace Sys2Proof.Machine

/-! ## Jumps (44_control.md R240 to R245) -/

theorem jumpIf_eq (cc : Cond) (s : State) :
    jumpIf cc s = .next { s with pc := if condHolds cc s.f = true then operandWord s else s.pc + 3 } := by
  rw [jumpIf, imm16_eq]
  split <;> rfl

/-- Settles O47: the target is the word after the opcode, and a condition only chooses what PC becomes. -/
theorem jumpsGoToTheTarget : Obligations.JumpsGoToTheTarget := by
  refine ⟨condHolds_eq_decide, rfl, rfl, fun cc => plainTable_opcodeBytes _ _ (decodeByte_jpOf cc), rfl, rfl,
    fun cc => by cases cc <;> rfl, fun s => ?_, fun cc s => (exec_jpOf cc s).trans (jumpIf_eq cc s), fun _ => rfl⟩
  exact congrArg (fun t => Host.Outcome.next (s.setPc t)) (imm16_eq s)

/-- The sum of words is the sum of the numbers they stand for, the displacement with its sign, modulo 65536. -/
theorem relativeTarget_eq (s : State) :
    s.relativeTarget = BitVec.ofInt 16 ((s.pc.toNat : Int) + 2 + (s.read (s.pc + 1)).toInt) := by
  rw [BitVec.ofInt_add, BitVec.ofInt_add, BitVec.ofInt_natCast, BitVec.ofNat_toNat, BitVec.setWidth_eq]
  rfl

theorem jumpRelativeIf_eq (cc : Cond) (s : State) :
    jumpRelativeIf cc s =
      .next { s with pc := if condHolds cc s.f = true then s.relativeTarget else s.pc + 2 } := by
  rw [jumpRelativeIf]
  split <;> rfl

/-- Settles O48: the target is a sum of numbers, and a condition only chooses what PC becomes. -/
theorem relativeJumpsAddTheDisplacement : Obligations.RelativeJumpsAddTheDisplacement := by
  refine ⟨rfl, rfl, fun cc => ⟨plainTable_opcodeBytes _ _ (decodeByte_jrOf cc), by cases cc <;> rfl⟩, fun s => ?_⟩
  rw [← relativeTarget_eq]
  exact ⟨rfl, fun cc => (exec_jrOf cc s).trans (jumpRelativeIf_eq cc s)⟩

/-! ## Calls (44_control.md R246, R247, R251) -/

theorem callTarget_eq (s : State) : s.callTarget = { afterPush s (s.pc + 3) with pc := operandWord s } := by
  rw [State.callTarget, imm16_eq, push16_eq]
  rfl

/-- Settles O50: a taken call pushes and jumps, and one not taken advances. -/
theorem callsPushTheReturnAddress : Obligations.CallsPushTheReturnAddress := by
  refine ⟨rfl, rfl, fun cc => ⟨plainTable_opcodeBytes _ _ (decodeByte_callOf cc), by cases cc <;> rfl⟩,
    fun s => congrArg Host.Outcome.next (callTarget_eq s), fun cc s htaken => ?_, fun cc s hfall => ?_⟩
  · rw [exec_callOf, callIf, if_pos htaken, callTarget_eq]
  · rw [exec_callOf, callIf, if_neg (ne_true_of_eq_false hfall)]
    rfl

/-- Settles O52: the push of a call, and the target read off the opcode. -/
theorem restartCallsTheFixedTarget : Obligations.RestartCallsTheFixedTarget := by
  refine fun tgt s => ⟨plainTable_opcodeBytes _ _ (decodeByte_rstOf tgt), by fin_cases tgt <;> rfl, ?_⟩
  rw [exec_rstOf, restartAt, push16_eq, zext16_rstTarget]
  rfl

/-! ## Returns (44_control.md R248 to R250) -/

theorem returnFromCall_eq (s : State) :
    s.returnFromCall = { s with pc := concatBytes (s.read (s.sp + 1)) (s.read s.sp), sp := s.sp + 2 } := by
  rw [State.returnFromCall, dropStack_eq, stackTop_eq]
  rfl

/-- Settles O51: one return, taken always, with `ime` set after it, or on a condition. -/
theorem returnsPopThePc : Obligations.ReturnsPopThePc := by
  refine ⟨rfl, rfl, fun cc => ⟨plainTable_opcodeBytes _ _ (decodeByte_retOf cc), by cases cc <;> rfl⟩, rfl, rfl,
    fun s => ⟨congrArg Host.Outcome.next (returnFromCall_eq s),
      congrArg (fun t : State => Host.Outcome.next (t.setIme 1)) (returnFromCall_eq s), fun cc => ?_⟩⟩
  rw [← returnFromCall_eq]
  exact exec_retOf cc s

/-! ## PUSH and POP (44_control.md R252 to R255) -/

theorem pushPair_eq (p : StkPair) (s : State) :
    pushPair p s = .next { afterPush s (s.stkPair p) with pc := s.pc + 1 } := by
  rw [pushPair, push16_eq]
  rfl

theorem popPair_eq (p : StkPair) (s : State) :
    popPair p s = .next
      { s.setStkPair p (concatBytes (s.read (s.sp + 1)) (s.read s.sp)) with sp := s.sp + 2, pc := s.pc + 1 } := by
  rw [popPair, dropStack_eq, stackTop_eq]
  cases p <;> rfl

/-- Settles O53: the two stack operations, and the instructions that move a pair by them. -/
theorem pushAndPopMoveThePair : Obligations.PushAndPopMoveThePair :=
  ⟨push16_eq, fun s => ⟨stackTop_eq s, dropStack_eq s⟩,
    fun p => ⟨plainTable_opcodeBytes _ _ (decodeByte_pushOf p), plainTable_opcodeBytes _ _ (decodeByte_popOf p),
      by cases p <;> rfl, by cases p <;> rfl⟩,
    fun p s => (exec_pushOf p s).trans (pushPair_eq p s), fun p s => (exec_popOf p s).trans (popPair_eq p s)⟩

end Sys2Proof.Machine
end

section
/-! PROOFS. O55 to O58: loads and stores. Each opcode is read off the plain table; each shared meaning is put as the
whole state it leaves, with the immediate word and the high-page address spelled as the rules spell them. -/

namespace Sys2Proof.Machine

/-! ## Loads of one byte (45_load.md R270 to R274) -/

/-- A write of a register leaves PC, so the advance counts from the old PC. -/
theorem advance_setReg (s : State) (r : Reg8) (v : Byte) (k : Word) :
    (s.setReg r v).advance k = { s.setReg r v with pc := s.pc + k } := by
  rw [← setReg_pc s r v]
  rfl

theorem loadReg_eq (dst src : Reg8) (s : State) :
    loadReg dst src s = .next { s.setReg dst (s.reg src) with pc := s.pc + 1 } := by
  rw [loadReg, advance_setReg]

theorem loadRegFromHl_eq (dst : Reg8) (s : State) :
    loadRegFromHl dst s = .next { s.setReg dst (s.read (concatBytes s.h s.l)) with pc := s.pc + 1 } := by
  rw [loadRegFromHl, advance_setReg]
  rfl

theorem loadRegImm_eq (dst : Reg8) (s : State) :
    loadRegImm dst s = .next { s.setReg dst (s.read (s.pc + 1)) with pc := s.pc + 2 } := by
  rw [loadRegImm, advance_setReg]
  rfl

/-- Settles O55: the three loads of a register by what they leave, the two stores at HL by definition. -/
theorem registerLoadsMoveOneByte : Obligations.RegisterLoadsMoveOneByte :=
  ⟨fun r r' => ⟨plainTable_opcodeBytes _ _ (decodeByte_ldOf r r'), by cases r <;> cases r' <;> rfl⟩,
    fun r => ⟨plainTable_opcodeBytes _ _ (decodeByte_ldIndHlOf r), plainTable_opcodeBytes _ _ (decodeByte_stIndHlOf r),
      plainTable_opcodeBytes _ _ (decodeByte_ldN8Of r), by cases r <;> exact ⟨rfl, rfl, rfl⟩⟩,
    rfl, rfl, fun r r' s => (exec_ldOf r r' s).trans (loadReg_eq r r' s),
    fun r s => (exec_ldIndHlOf r s).trans (loadRegFromHl_eq r s), exec_stIndHlOf,
    fun r s => (exec_ldN8Of r s).trans (loadRegImm_eq r s), fun _ => rfl⟩

/-! ## A through BC, DE and HL (45_load.md R275 to R280) -/

/-- Settles O56: the opcodes by the lemma of each family; in each mode the shared meaning is the stated state. -/
theorem indirectAccumulatorLoadsStepHl : Obligations.IndirectAccumulatorLoadsStepHl :=
  ⟨fun m => ⟨plainTable_opcodeBytes _ _ (decodeByte_stMemOf m), plainTable_opcodeBytes _ _ (decodeByte_ldMemOf m),
      by cases m <;> exact ⟨rfl, rfl⟩⟩,
    fun s => ⟨exec_stMemOf .bc s, exec_stMemOf .de s, exec_stMemOf .hli s, exec_stMemOf .hld s,
      exec_ldMemOf .bc s, exec_ldMemOf .de s, exec_ldMemOf .hli s, exec_ldMemOf .hld s⟩⟩

/-! ## A at a16 and in the high page (45_load.md R281 to R286) -/

theorem highPage_eq (v : Byte) : highPage v = BitVec.ofNat 16 (0xFF00 + v.toNat) := by
  rw [BitVec.ofNat_add, BitVec.ofNat_toNat]
  rfl

theorem storeAccAt_eq (addr n : Word) (s : State) :
    storeAccAt addr n s = .next { s.write addr s.a with pc := s.pc + n } := rfl

theorem loadAccFrom_eq (addr n : Word) (s : State) :
    loadAccFrom addr n s = .next { s with a := s.read addr, pc := s.pc + n } := rfl

/-- Settles O57: one store and one load of A, at the three addresses. -/
theorem absoluteAndHighPageLoadsMoveA : Obligations.AbsoluteAndHighPageLoadsMoveA := by
  refine ⟨rfl, rfl, rfl, rfl, rfl, rfl, rfl, rfl, rfl, rfl, rfl, rfl, fun s => ?_⟩
  simp only [← highPage_eq, ← imm16_eq]
  exact ⟨storeAccAt_eq s.imm16 3 s, loadAccFrom_eq s.imm16 3 s, storeAccAt_eq s.immHighPage 2 s,
    loadAccFrom_eq s.immHighPage 2 s, storeAccAt_eq s.cHighPage 1 s, loadAccFrom_eq s.cHighPage 1 s⟩

/-! ## Loads and stores of 16 bits (45_load.md R287 to R289) -/

theorem loadPairImm_eq (p : Pair) (s : State) :
    loadPairImm p s = .next { s.setPair p (operandWord s) with pc := s.pc + 3 } := by
  rw [loadPairImm, imm16_eq]
  cases p <;> rfl

theorem highByte_operandWord (s : State) : highByte (operandWord s) = s.read (s.pc + 2) :=
  highByte_concatBytes _ _

theorem lowByte_operandWord (s : State) : lowByte (operandWord s) = s.read (s.pc + 1) :=
  lowByte_concatBytes _ _

theorem exec_ldIndA16Sp (s : State) : exec .ldIndA16Sp s = .next
    { (s.write (operandWord s) (lowByte s.sp)).write (operandWord s + 1) (highByte s.sp) with pc := s.pc + 3 } := by
  rw [← imm16_eq]
  rfl

/-- Settles O58: a pair load writes the two bytes of the immediate word, a store of SP its own two bytes. -/
theorem wordLoadsMoveSixteenBits : Obligations.WordLoadsMoveSixteenBits := by
  refine ⟨fun p => ⟨plainTable_opcodeBytes _ _ (decodeByte_ldN16Of p), by cases p <;> rfl⟩, rfl, rfl, rfl, rfl,
    fun s => ?_⟩
  have hload (p : Pair) := (exec_ldN16Of p s).trans (loadPairImm_eq p s)
  rw [← highByte_operandWord, ← lowByte_operandWord]
  exact ⟨hload .bc, hload .de, hload .hl, hload .sp, exec_ldIndA16Sp s, rfl⟩

end Sys2Proof.Machine
end

section
/-! PROOFS. O23 and O59: control of the CPU. NOP, DI and EI as the whole states they leave; the EI delay is
`promoteEi` of a state with `ei` not 0. -/

namespace Sys2Proof.Machine

/-! ## NOP, DI and EI (47_misc.md R340, R343, R344) -/

theorem exec_nop (s : State) : exec .nop s = .next { s with pc := s.pc + 1 } := rfl

theorem exec_di (s : State) : exec .di s = .next { s with ime := 0, ei := 0, pc := s.pc + 1 } := rfl

theorem exec_ei (s : State) : exec .ei s = .next { s with ei := 1, pc := s.pc + 1 } := rfl

/-- Settles O59: HALT and STOP by what they leave in either HALT_MODE. -/
theorem nopHaltStopDiActAsStated : Obligations.NopHaltStopDiActAsStated := by
  refine ⟨rfl, rfl, rfl, rfl, rfl, rfl, rfl, rfl, exec_nop, fun s hmode => ?terminal, fun s hmode => ?nop, exec_di⟩
  case terminal => exact ⟨by rw [exec_halt, if_pos hmode], by rw [exec_stop, if_pos hmode]⟩
  case nop =>
    have hne : s.haltMode ≠ .terminal := by rw [hmode]; decide
    exact ⟨by rw [exec_halt, if_neg hne], by rw [exec_stop, if_neg hne]⟩

/-! ## The EI delay (30_encoding.md R90; 47_misc.md R344) -/

theorem fetchEntry_ei {s : State} (h : s.read s.pc = 0xFB) : s.fetchEntry = some .ei := by
  rw [State.fetchEntry, State.opcode, h]
  rfl

theorem promoteEi_of_pending {s : State} (hei : s.ei ≠ 0) : s.promoteEi = { s with ime := 1, ei := 0 } := if_pos hei

/-- A running step with EI pending: the decoded instruction, in the state where `ime` has been set. -/
theorem step_of_pending {s : State} {i : Instr} (hrun : s.status = .running) (hei : s.ei ≠ 0)
    (hi : s.fetchEntry = some i) : step s = exec i { s with ime := 1, ei := 0 } := by
  rw [step_entry hrun hi, promoteEi_of_pending hei]

/-- Settles O23: the delay before an entry, none before a DecodeError, and EI as the instruction after EI. -/
theorem eiTakesEffectInTheNextStep : Obligations.EiTakesEffectInTheNextStep := by
  refine ⟨rfl, rfl, exec_ei, fun s i hrun hei hi => step_of_pending hrun hei hi,
    fun s t hrun hnone hstep => ?noEntry, fun s hrun hei hop => ?eiAfterEi⟩
  case noEntry =>
    rw [step_noEntry hrun hnone, Host.Outcome.next.injEq] at hstep
    subst hstep
    exact ⟨rfl, rfl⟩
  case eiAfterEi => rw [step_of_pending hrun hei (fetchEntry_ei hop), exec_ei]

end Sys2Proof.Machine
end

section
/-! PROOFS. O21: the DecodeError. What the caller is told depends only on what `step` answers. -/

namespace Sys2Proof.Machine

/-! ## Taking a DecodeError (60_exceptions.md R371, R372) -/

theorem exec_noTableEntry (op : Byte) (s : State) : exec (.noTableEntry op) s = .next (s.raiseDecodeError op) := rfl

theorem step_of_faulted {s : State} {info : DecodeError} (h : s.status = .faulted info) :
    step s = .fault (.faulted info) := by
  rw [step, h]

/-! ## The report to the caller (60_exceptions.md R384) -/

/-- A step that leaves Faulted reports the DecodeError it recorded. -/
theorem stepReport_of_next_faulted {s t : State} {info : DecodeError} (hstep : step s = .next t)
    (ht : t.status = .faulted info) : stepReport s = some info := by
  simp only [stepReport, hstep, ht]

theorem stepReport_of_fault {s : State} {fault : Fault} (hstep : step s = .fault fault) : stepReport s = none := by
  simp only [stepReport, hstep]

/-- Settles O21: the entry writes the status alone, and only a snapshot load leads out of Faulted. -/
theorem decodeErrorIsPreciseAndPermanent : Obligations.DecodeErrorIsPreciseAndPermanent := by
  refine ⟨fun s hrun hunused => ?taken, fun s info hfaulted => ?permanent, fun s snap => ?load, exec_noTableEntry⟩
  case taken =>
    have hstep := step_unused hrun hunused
    exact ⟨hstep, stepReport_of_next_faulted hstep rfl⟩
  case permanent =>
    have hstep := step_of_faulted hfaulted
    exact ⟨hstep, stepReport_of_fault hstep⟩
  case load => rw [loadSnapshot_eq]

end Sys2Proof.Machine
end

section
/-! PROOFS. O6 and O27: the memory after an instruction is the memory before it with the bytes of `storedBy` written in
their order. Such writes keep the canonical form, and what they leave at an address is what `afterStores` says. -/

namespace Sys2Proof.Machine

/-! ## The stores of each instruction (20_memory.md; 44_control.md R252; 45_load.md) -/

/-- The instruction completes, and the memory it leaves is the old one after the stores named for it. -/
def StoresAsNamed (i : Instr) (s : State) : Prop :=
  ∃ t, exec i s = .next t ∧ t.mem = (s.writeRam (storedBy i s)).mem

/-- An instruction known by its next state and by the bytes the table of stores gives it. -/
theorem storesAsNamed_of_exec {i : Instr} {s t : State} {stores : List (Word × Byte)}
    (hstores : storedBy i s = stores) (hexec : exec i s = .next t) (hmem : t.mem = (s.writeRam stores).mem) :
    StoresAsNamed i s :=
  ⟨t, hexec, by rw [hstores, hmem]⟩

/-- An instruction that stores nothing. -/
theorem storesAsNamed_of_mem_eq {i : Instr} {s t : State} (hstores : storedBy i s = []) (hexec : exec i s = .next t)
    (hmem : t.mem = s.mem) : StoresAsNamed i s :=
  storesAsNamed_of_exec hstores hexec hmem

theorem writeLoc_mem (s : State) (x : Loc8) (v : Byte) :
    (s.writeLoc x v).mem = (s.writeRam (s.storedAtLoc x v)).mem := by
  cases x <;> rfl

theorem push16_mem (s : State) (v : Word) : (s.push16 v).mem = (s.writeRam (s.pushedAt v)).mem := by
  rw [push16_eq]
  rfl

theorem memModeStep_mem (s : State) (m : MemMode) : (s.memModeStep m).mem = s.mem := by
  cases m <;> rfl

theorem storesAsNamed_rotOf (op : RotOp) (x : Loc8) (s : State) : StoresAsNamed (.rotOf op x) s :=
  storesAsNamed_of_exec (by cases op <;> rfl) (exec_rotOf op x s) (writeLoc_mem s x (rotResult op (s.readLoc x) s.f.c).1)

theorem storesAsNamed_cbOf (op : CbOp) (s : State) : StoresAsNamed (.cbOf op) s := by
  cases op with
  | rot op x => exact storesAsNamed_rotOf op x s
  | bit n x => exact storesAsNamed_of_exec rfl rfl rfl
  | res n x => exact storesAsNamed_of_exec rfl rfl (writeLoc_mem s x (resetBit n (s.readLoc x)))
  | set n x => exact storesAsNamed_of_exec rfl rfl (writeLoc_mem s x (setBit n (s.readLoc x)))

theorem storedBy_cbOf (op : CbOp) (s : State) : storedBy (.cbOf op) s = s.storedByCb op := by
  cases op with
  | rot op x => cases op <;> rfl
  | _ => rfl

theorem storesAsNamed_prefixCb (s : State) : StoresAsNamed .prefixCb s := by
  obtain ⟨t, hexec, hmem⟩ := storesAsNamed_cbOf (decodeCb s.imm8) s
  rw [storedBy_cbOf] at hmem
  exact ⟨t, (exec_prefixCb s).trans hexec, hmem⟩

/-- A call on a condition stores the return address if it is taken. -/
theorem storesAsNamed_callOf (cc : Cond) (s : State) : StoresAsNamed (.callOf cc) s := by
  have hstores : storedBy (.callOf cc) s = if condHolds cc s.f then s.pushedAt (s.pc + 3) else [] := by
    cases cc <;> rfl
  refine storesAsNamed_of_exec hstores (exec_callOf cc s) ?_
  split
  · exact push16_mem s (s.pc + 3)
  · rfl

theorem storesAsNamed (i : Instr) (s : State) : StoresAsNamed i s := by
  induction i using instr_families with
  | ld r r' => exact storesAsNamed_of_mem_eq (by cases r <;> cases r' <;> rfl) (exec_ldOf r r' s) (setReg_mem ..)
  | ldIndHl r => exact storesAsNamed_of_mem_eq (by cases r <;> rfl) (exec_ldIndHlOf r s) (setReg_mem ..)
  | stIndHl r =>
    exact storesAsNamed_of_exec (stores := [(s.hl, s.reg r)]) (by cases r <;> rfl) (exec_stIndHlOf r s) rfl
  | ldN8 r => exact storesAsNamed_of_mem_eq (by cases r <;> rfl) (exec_ldN8Of r s) (setReg_mem ..)
  | stMem m =>
    exact storesAsNamed_of_exec (stores := [(s.memModeAddr m, s.a)]) (by cases m <;> rfl) (exec_stMemOf m s)
      (memModeStep_mem ..)
  | ldMem m => exact storesAsNamed_of_mem_eq (by cases m <;> rfl) (exec_ldMemOf m s) (memModeStep_mem ..)
  | ldN16 p => exact storesAsNamed_of_mem_eq (by cases p <;> rfl) (exec_ldN16Of p s) (setPair_mem ..)
  | incPair p => exact storesAsNamed_of_mem_eq (by cases p <;> rfl) (exec_incPairOf p s) (setPair_mem ..)
  | decPair p => exact storesAsNamed_of_mem_eq (by cases p <;> rfl) (exec_decPairOf p s) (setPair_mem ..)
  | addHl p => exact storesAsNamed_of_mem_eq (by cases p <;> rfl) (exec_addHlOf p s) (setPair_mem ..)
  | push p => exact storesAsNamed_of_exec (by cases p <;> rfl) (exec_pushOf p s) (push16_mem s (s.stkPair p))
  | pop p => exact storesAsNamed_of_mem_eq (by cases p <;> rfl) (exec_popOf p s) (setStkPair_mem ..)
  | jpCc cc => exact storesAsNamed_of_mem_eq (by cases cc <;> rfl) (exec_jpOf cc s) (by split <;> rfl)
  | jrCc cc => exact storesAsNamed_of_mem_eq (by cases cc <;> rfl) (exec_jrOf cc s) (by split <;> rfl)
  | callCc cc => exact storesAsNamed_callOf cc s
  | retCc cc => exact storesAsNamed_of_mem_eq (by cases cc <;> rfl) (exec_retOf cc s) (by split <;> rfl)
  | rst t => exact storesAsNamed_of_exec (by fin_cases t <;> rfl) (exec_rstOf t s) (push16_mem s (s.pc + 1))
  | inc x =>
    exact storesAsNamed_of_exec (by cases x <;> rfl) (exec_incOf x s) (writeLoc_mem s x (incByte (s.readLoc x) s.f).1)
  | dec x =>
    exact storesAsNamed_of_exec (by cases x <;> rfl) (exec_decOf x s) (writeLoc_mem s x (decByte (s.readLoc x) s.f).1)
  | alu op src =>
    exact storesAsNamed_of_exec (by rcases src with (_ | _) | _ | _ <;> cases op <;> rfl) (exec_aluOf op src s) rfl
  | accRot op => exact storesAsNamed_of_exec (by cases op <;> rfl) (exec_accRotOf op s) rfl
  | rot op x => exact storesAsNamed_cbOf (.rot op x) s
  | bit n x => exact storesAsNamed_cbOf (.bit n x) s
  | res n x => exact storesAsNamed_cbOf (.res n x) s
  | set n x => exact storesAsNamed_cbOf (.set n x) s
  | callA16 => exact storesAsNamed_of_exec rfl rfl (push16_mem s (s.pc + 3))
  | halt => exact storesAsNamed_of_exec rfl (exec_halt s) rfl
  | stop => exact storesAsNamed_of_exec rfl (exec_stop s) rfl
  | prefixCb => exact storesAsNamed_prefixCb s
  | _ => exact storesAsNamed_of_exec rfl rfl rfl

/-- The memory after an instruction, by the bytes it stores. -/
theorem exec_mem {i : Instr} {s t : State} (h : exec i s = .next t) :
    t.mem = (s.writeRam (storedBy i s)).mem := by
  obtain ⟨t', hexec, hmem⟩ := storesAsNamed i s
  cases h.symm.trans hexec
  exact hmem

theorem exec_wf {i : Instr} {s t : State} (hs : s.mem.wf = true) (h : exec i s = .next t) : t.mem.wf = true := by
  rw [exec_mem h]
  exact wf_writeRam hs _

/-- Settles O6: the EI delay and the exception touch no memory, and an instruction only writes bytes. -/
theorem stepKeepsMemoryCanonical : Obligations.StepKeepsMemoryCanonical := by
  intro s t hs hstep
  obtain ⟨-, ⟨i, -, hexec⟩ | ⟨-, rfl⟩⟩ := step_next_cases hstep
  · refine exec_wf ?_ hexec
    rw [promoteEi_eq]
    exact hs
  · exact hs

/-- Settles O27: a memory reads as the stores written to it say. -/
theorem onlyTheNamedBytesAreStored : Obligations.OnlyTheNamedBytesAreStored := by
  intro i s t hs hexec addr
  rw [State.read, exec_mem hexec]
  exact read_writeRam hs (storedBy i s) addr

end Sys2Proof.Machine
end

section
/-! PROOFS. O12, O13, O14 and O18: decoding and encoding. Behind 0xCB an entry is 0xCB and its own byte; any
other row is one byte and the immediate bytes of its format. The decoder passes over as many bytes as the encoder puts
there, and every string of at most two bytes is the immediate of some word. -/

namespace Sys2Proof.Machine

/-! ## The opcode of an entry (30_encoding.md R101, R104, R105) -/

theorem cbOf_decodeCb_opcodeBytes : ∀ b : Byte, (Instr.cbOf (decodeCb b)).opcodeBytes = [0xCB, b] := by
  decide

/-- Every CB entry has a byte of its own in the second table. -/
theorem exists_decodeByte_cbOf (op : CbOp) : ∃ b, decodeByte b true = some (.cbOf op) := by
  cases op with
  | rot op x => exact ⟨_, decodeByte_rotOf op x⟩
  | bit n x => exact ⟨_, decodeByte_bitBR n x⟩
  | res n x => exact ⟨_, decodeByte_resBR n x⟩
  | set n x => exact ⟨_, decodeByte_setBR n x⟩

/-- An entry's opcode tells its table and its place there. -/
theorem opcodeBytes_of_decodeByte {b : Byte} {p : Bool} {i : Instr} (h : decodeByte b p = some i) :
    i.opcodeBytes = if p then [0xCB, b] else [b] := by
  cases p with
  | false => exact plainTable_opcodeBytes b i h
  | true =>
    cases h
    exact cbOf_decodeCb_opcodeBytes b

/-- Settles O14: both combinations are read off the opcode of the entry. -/
theorem eachTableEntryHasOneOpcode : Obligations.EachTableEntryHasOneOpcode := by
  refine ⟨fun x y p q i hx hy => ?_, decodeByte_aluOf_indHl .adc, decodeByte_aluOf_indHl .sbc⟩
  have hbytes := (opcodeBytes_of_decodeByte hx).symm.trans (opcodeBytes_of_decodeByte hy)
  match p, q, hbytes with
  | false, false, h => exact ⟨List.head_eq_of_cons_eq h, rfl⟩
  | true, true, h => exact ⟨List.head_eq_of_cons_eq (List.tail_eq_of_cons_eq h), rfl⟩
  | false, true, h => cases h
  | true, false, h => cases h

/-! ## The decoder on a first byte (30_encoding.md R90, R109) -/

theorem decode_cons {b : Byte} (hne : b ≠ 0xCB) (tail : List Byte) :
    decode (b :: tail) =
      if (decodeRow b (tail.headD 0)).length ≤ tail.length + 1 then
        .ok (decodeRow b (tail.headD 0), tail.drop ((decodeRow b (tail.headD 0)).length - 1))
      else .error (.truncated (decodeRow b (tail.headD 0)).length) := by
  rw [decode, if_neg fun h => hne h.1]

/-- Behind 0xCB any byte is an entry, and the rest follows it. -/
theorem decode_prefixed (b : Byte) (rest : List Byte) :
    decode (0xCB :: b :: rest) = .ok (.cbOf (decodeCb b), rest) := by
  have hrow : decodeRow 0xCB b = .cbOf (decodeCb b) := rfl
  rw [decode_cons_cons, hrow, length_cbOf, if_pos (Nat.le_add_left 2 _)]
  rfl

/-- The decoder splits a string behind a row that its first byte alone tells. -/
theorem decode_append {b : Byte} {i : Instr} (hne : b ≠ 0xCB) (hrow : ∀ b1, decodeRow b b1 = i)
    {operand : List Byte} (hlen : i.length = operand.length + 1) (rest : List Byte) :
    decode (b :: operand ++ rest) = .ok (i, rest) := by
  rw [List.cons_append, decode_cons hne, hrow, hlen, if_pos (by simp)]
  simp

/-! ## The bytes of a well-formed instruction -/

/-- A well-formed instruction is an entry behind 0xCB, or a byte that tells it and the bytes of its immediate. -/
theorem encode_cases {i : Instr} (hi : WellFormed i = true) (imm : Word) :
    (∃ b, i = .cbOf (decodeCb b) ∧ encode i imm = [0xCB, b]) ∨
      ∃ b, b ≠ 0xCB ∧ (∀ b1, decodeRow b b1 = i) ∧ encode i imm = b :: immediateOf i.format.immediateBytes imm := by
  obtain ⟨op, rfl⟩ | ⟨b, hb, rfl⟩ | ⟨b, hb⟩ := wellFormed_cases hi
  · obtain ⟨b, hb⟩ := exists_decodeByte_cbOf op
    refine .inl ⟨b, (Option.some.inj hb).symm, ?_⟩
    rw [encode, opcodeBytes_of_decodeByte hb, format_cbOf]
    rfl
  · exact .inr ⟨b, by rintro rfl; exact absurd hb (by decide), decodeRow_of_unused hb, rfl⟩
  · obtain ⟨hbytes, -, -⟩ := encode_of_decodeByte hi hb imm
    refine .inr ⟨b, ?_, decodeRow_of_decodeByte hi hb, hbytes⟩
    rintro rfl
    cases hb
    cases hi

theorem decode_encode {i : Instr} (hi : WellFormed i = true) (imm : Word) (rest : List Byte) :
    decode (encode i imm ++ rest) = .ok (i, rest) := by
  have hlen := encode_length hi imm
  obtain ⟨b, rfl, hbytes⟩ | ⟨b, hne, hrow, hbytes⟩ := encode_cases hi imm
  · rw [hbytes]
    exact decode_prefixed b rest
  · rw [hbytes] at hlen ⊢
    exact decode_append hne hrow hlen.symm rest

/-- Settles O12: the decoder on an encoding, and the bytes at PC that hold the immediate. -/
theorem decodeOfEncodeIsTheInstruction : Obligations.DecodeOfEncodeIsTheInstruction := by
  refine ⟨fun i imm rest hi => decode_encode hi imm rest, fun i imm s rest hi hfetch => ?_⟩
  obtain ⟨b, rfl, -⟩ | ⟨b, -, -, hbytes⟩ := encode_cases hi imm
  · rw [format_cbOf]
    exact ⟨nofun, nofun⟩
  · rw [hbytes, State.fetchBytes] at hfetch
    refine ⟨fun hone => ?one, fun htwo => ?two⟩
    case one =>
      rw [hone] at hfetch
      injection hfetch with _ hfetch
      injection hfetch
    case two =>
      rw [htwo] at hfetch
      injection hfetch with _ hfetch
      injection hfetch with hlow hfetch
      injection hfetch with hhigh _
      rw [imm16_eq, operandWord, hlow, hhigh, concatBytes_high_low]

/-! ## From the bytes to the encoding -/

theorem exists_immediateOf {bytes : List Byte} (hlen : bytes.length ≤ 2) :
    ∃ imm, immediateOf bytes.length imm = bytes := by
  match bytes with
  | [] => exact ⟨0, rfl⟩
  | [lo] => exact ⟨concatBytes 0 lo, by simp [immediateOf]⟩
  | [lo, hi] => exact ⟨concatBytes hi lo, by simp [immediateOf]⟩

theorem immediateBytes_le_two (f : Format) : f.immediateBytes ≤ 2 := by
  cases f <;> decide

/-- The row of a byte other than 0xCB is encoded as that byte and the bytes of its immediate. -/
theorem encode_decodeRow {b0 : Byte} (hne : b0 ≠ 0xCB) (b1 : Byte) (imm : Word) :
    encode (decodeRow b0 b1) imm = b0 :: immediateOf (decodeRow b0 b1).format.immediateBytes imm := by
  rw [decodeRow, decodeEntry_plain hne]
  cases h : plainTable.getD b0.toNat none with
  | some i => exact congrArg (· ++ immediateOf i.format.immediateBytes imm) (plainTable_opcodeBytes b0 i h)
  | none => rfl

theorem decodeRow_length {b0 : Byte} (hne : b0 ≠ 0xCB) (b1 : Byte) :
    (decodeRow b0 b1).length = (decodeRow b0 b1).format.immediateBytes + 1 := by
  have hlen := encode_length (decodeRow_wellFormed b0 b1) 0
  rw [encode_decodeRow hne, List.length_cons] at hlen
  rw [← hlen, immediateOf, List.length_take_of_le (immediateBytes_le_two _)]

/-- Settles O13: the row's own opcode stands at the head, and the bytes passed over are the immediate of some word. -/
theorem decodedBytesAreAnEncoding : Obligations.DecodedBytesAreAnEncoding := by
  intro bytes rest i hdec
  cases bytes with
  | nil => cases hdec
  | cons b0 tail =>
    by_cases hcb : b0 = 0xCB
    · subst hcb
      cases tail with
      | nil => cases hdec
      | cons b1 tail =>
        cases (decode_prefixed b1 tail).symm.trans hdec
        exact ⟨wellFormed_cbOf _, 0, by rw [encode, cbOf_decodeCb_opcodeBytes, format_cbOf]; rfl⟩
    · rw [decode_cons hcb] at hdec
      split at hdec
      · rename_i hfits
        cases hdec
        rw [decodeRow_length hcb, Nat.add_le_add_iff_right] at hfits
        obtain ⟨imm, himm⟩ := exists_immediateOf (bytes := tail.take _)
          ((List.length_take_le _ _).trans (immediateBytes_le_two (decodeRow b0 (tail.headD 0)).format))
        rw [List.length_take_of_le hfits] at himm
        refine ⟨decodeRow_wellFormed b0 _, imm, ?_⟩
        rw [encode_decodeRow hcb, himm, decodeRow_length hcb, Nat.add_sub_cancel, List.cons_append,
          List.take_append_drop]
      · cases hdec

/-- Settles O18: each string is decoded. -/
theorem sampleWordsDecodeAsTheMapsSay : Obligations.SampleWordsDecodeAsTheMapsSay := 
  ⟨rfl, rfl, rfl, rfl, rfl, rfl, rfl, rfl, rfl, rfl, rfl, rfl, rfl, rfl, rfl, rfl, rfl, rfl, rfl, rfl, rfl, rfl, rfl,
    rfl, rfl, rfl⟩

end Sys2Proof.Machine
end

section
/-! PROOFS. O22: runs. A state that is not Running has no step, so a run stays where it has stopped; a property that every
step keeps holds all along a run, and with HALT_MODE nop no step leaves a final status. -/

namespace Sys2Proof.Machine

/-! ## Runs (60_exceptions.md R383) -/

theorem stateAfter_succ_of_next {s t : State} (h : step s = .next t) (n : Nat) :
    stateAfter (n + 1) s = stateAfter n t := by
  rw [stateAfter, h]

/-- A run stays in a state that is not Running. -/
theorem stateAfter_of_not_running {s : State} (hs : s.status ≠ .running) (n : Nat) : stateAfter n s = s := by
  cases n with
  | zero => rfl
  | succ n =>
    unfold stateAfter
    split
    · rename_i t ht
      exact absurd (step_next_cases ht).1 hs
    · rfl
    · rfl

/-- A run of `n + k` steps is a run of `n` steps and then one of `k`. -/
theorem stateAfter_add (s : State) (n k : Nat) : stateAfter (n + k) s = stateAfter k (stateAfter n s) := by
  induction n generalizing s with
  | zero => rw [Nat.zero_add]; rfl
  | succ n ih =>
    by_cases hrun : s.status = .running
    · obtain ⟨t, ht⟩ := step_completes hrun
      rw [Nat.add_right_comm, stateAfter_succ_of_next ht, stateAfter_succ_of_next ht, ih]
    · simp only [stateAfter_of_not_running hrun]

/-- Once its status is not Running, the state never changes again. -/
theorem stateAfter_stable {s : State} {n : Nat} (h : (stateAfter n s).status ≠ .running) (k : Nat) :
    stateAfter (n + k) s = stateAfter n s := by
  rw [stateAfter_add, stateAfter_of_not_running h]

/-- A run ends in one state. -/
theorem stateAfter_unique {s : State} {n m : Nat} (hn : (stateAfter n s).status ≠ .running)
    (hm : (stateAfter m s).status ≠ .running) : stateAfter n s = stateAfter m s := by
  rw [← stateAfter_stable hn m, Nat.add_comm, stateAfter_stable hm]

/-- A property that every step keeps holds all along a run. -/
theorem stateAfter_induction {P : State → Prop} (hstep : ∀ s t, P s → step s = .next t → P t) {s : State}
    (hs : P s) (n : Nat) : P (stateAfter n s) := by
  induction n generalizing s with
  | zero => exact hs
  | succ n ih =>
    unfold stateAfter
    split
    · rename_i t ht
      exact ih (hstep s t hs ht)
    · exact hs
    · exact hs

/-! ## The ends of a run (10_state.md R40) -/

theorem not_running_of_isFinal {s : State} (h : s.isFinal = true) : s.status ≠ .running := by
  intro hrun
  simp [State.isFinal, hrun] at h

theorem not_running_of_hasFaulted {s : State} (h : s.hasFaulted = true) : s.status ≠ .running := by
  intro hrun
  simp [State.hasFaulted, hrun] at h

theorem isFinal_or_hasFaulted {s : State} (h : s.status ≠ .running) : s.isFinal = true ∨ s.hasFaulted = true := by
  cases hs : s.status with
  | running => exact absurd hs h
  | halted => exact .inl (by simp [State.isFinal, hs])
  | stopped => exact .inl (by simp [State.isFinal, hs])
  | faulted info => exact .inr (by simp [State.hasFaulted, hs])

/-- A final state has not faulted. -/
theorem hasFaulted_of_isFinal {s : State} (h : s.isFinal = true) : s.hasFaulted = false := by
  cases hs : s.status with
  | faulted info => simp [State.isFinal, hs] at h
  | _ => simp [State.hasFaulted, hs]

/-- A run that is final at some step has faulted at none. -/
theorem stateAfter_not_faulted_of_final {s : State} {n : Nat} (hn : (stateAfter n s).isFinal = true) (m : Nat) :
    (stateAfter m s).hasFaulted = false := by
  by_contra hm
  rw [Bool.not_eq_false] at hm
  have hsame := stateAfter_unique (not_running_of_isFinal hn) (not_running_of_hasFaulted hm)
  rw [← hsame, hasFaulted_of_isFinal hn] at hm
  cases hm

/-! ## HALT_MODE (00_scope.md R7) -/

theorem controlAfter_haltMode (i : Instr) (s : State) : (controlAfter i s).haltMode = s.haltMode := by
  unfold controlAfter
  split <;> rfl

theorem step_haltMode {s t : State} (h : step s = .next t) : t.haltMode = s.haltMode := by
  obtain ⟨-, ⟨i, -, hexec⟩ | ⟨-, rfl⟩⟩ := step_next_cases h
  · have hmode : t.haltMode = s.promoteEi.haltMode :=
      (congrArg ControlCells.haltMode (exec_control hexec)).trans (controlAfter_haltMode i _)
    rw [hmode, promoteEi_eq]
  · rfl

theorem stateAfter_haltMode (s : State) (n : Nat) : (stateAfter n s).haltMode = s.haltMode :=
  stateAfter_induction (P := fun t => t.haltMode = s.haltMode) (fun _ _ hs h => (step_haltMode h).trans hs) rfl n

/-- With HALT_MODE nop neither HALT nor STOP ends a run. -/
theorem step_not_final {s t : State} (hmode : s.haltMode = .nop) (h : step s = .next t) : t.isFinal = false := by
  have hne : s.haltMode ≠ .terminal := by rw [hmode]; decide
  have hhalted : t.status ≠ .halted := fun ht => hne ((statusAfterStep_eq_halted_iff s).mp (step_status h ▸ ht)).2
  have hstopped : t.status ≠ .stopped := fun ht => hne ((statusAfterStep_eq_stopped_iff s).mp (step_status h ▸ ht)).2
  simp [State.isFinal, hhalted, hstopped]

theorem stateAfter_not_final {s : State} (hrun : s.status = .running) (hmode : s.haltMode = .nop) (n : Nat) :
    (stateAfter n s).isFinal = false := by
  have hkeep : ∀ t u : State, t.haltMode = .nop ∧ t.isFinal = false → step t = .next u →
      u.haltMode = .nop ∧ u.isFinal = false :=
    fun t u ht h => ⟨(step_haltMode h).trans ht.1, step_not_final ht.1 h⟩
  have hstart : s.isFinal = false := by simp [State.isFinal, hrun]
  exact (stateAfter_induction hkeep ⟨hmode, hstart⟩ n).2

/-- Settles O22: a run that leaves Running is final or has faulted, and stays in that one state. -/
theorem everyRunIsFinalFaultedOrInfinite : Obligations.EveryRunIsFinalFaultedOrInfinite := by
  refine ⟨fun s => ?_, fun s n m hn => ⟨stateAfter_not_faulted_of_final hn m, n, not_running_of_isFinal hn⟩,
    fun s n hn => ⟨n, not_running_of_hasFaulted hn⟩, fun _ _ k h => stateAfter_stable h k,
    fun s n hrun hmode => stateAfter_not_final hrun hmode n, stateAfter_haltMode⟩
  by_cases hall : ∀ n, (stateAfter n s).status = .running
  · exact .inr (.inr hall)
  · obtain ⟨n, hn⟩ := not_forall.mp hall
    obtain hfinal | hfaulted := isFinal_or_hasFaulted hn
    · exact .inl ⟨n, hfinal⟩
    · exact .inr (.inl ⟨n, hfaulted⟩)

end Sys2Proof.Machine
end

section
/-! PROOFS. O25 and O26: every instruction completes, and writes no element but those named for it. F, PC and memory are
no elements of the frame, so an update of them keeps any frame; each family then writes the one location, register or
pair of its rule. -/

namespace Sys2Proof.Machine

/-- Settles O25: each family answers a next state, and so does the exception. -/
theorem everyInstructionCompletes : Obligations.EveryInstructionCompletes :=
  ⟨exec_completes, fun _ => step_completes⟩

/-! ## Frames -/

theorem agreeOutside_refl (ws : List Elem) (s : State) : AgreeOutside ws s s :=
  ⟨fun _ => rfl, fun _ => rfl, fun _ => rfl, fun _ => rfl, fun _ => rfl, fun _ => rfl, fun _ => rfl, fun _ => rfl,
    fun _ => rfl, fun _ => rfl, fun _ => rfl, fun _ => rfl, fun _ => rfl⟩

theorem AgreeOutside.advance {ws : List Elem} {s t : State} (h : AgreeOutside ws s t) (n : Word) :
    AgreeOutside ws s (t.advance n) := h

theorem AgreeOutside.setPc {ws : List Elem} {s t : State} (h : AgreeOutside ws s t) (v : Word) :
    AgreeOutside ws s (t.setPc v) := h

theorem AgreeOutside.setFlags {ws : List Elem} {s t : State} (h : AgreeOutside ws s t) (v : Flags) :
    AgreeOutside ws s (t.setFlags v) := h

theorem AgreeOutside.write {ws : List Elem} {s t : State} (h : AgreeOutside ws s t) (addr : Word) (v : Byte) :
    AgreeOutside ws s (t.write addr v) := h

/-! ## What the operations write -/

/-- The element of a register. -/
def Reg8.elem : Reg8 → Elem
  | .b => .b
  | .c => .c
  | .d => .d
  | .e => .e
  | .h => .h
  | .l => .l
  | .a => .a

/-- The elements of a pair. -/
def Pair.elems : Pair → List Elem
  | .bc => [.b, .c]
  | .de => [.d, .e]
  | .hl => [.h, .l]
  | .sp => [.sp]

/-- The elements of a stack pair; F is none. -/
def StkPair.elems : StkPair → List Elem
  | .bc => [.b, .c]
  | .de => [.d, .e]
  | .hl => [.h, .l]
  | .af => [.a]

/-- The elements a stepping mode writes. -/
def MemMode.elems : MemMode → List Elem
  | .bc => []
  | .de => []
  | .hli => [.h, .l]
  | .hld => [.h, .l]

theorem agreeOutside_setReg (r : Reg8) (s : State) (v : Byte) : AgreeOutside [Reg8.elem r] s (s.setReg r v) := by
  cases r <;> simp [AgreeOutside, Reg8.elem]

theorem agreeOutside_writeLoc (x : Loc8) (s : State) (v : Byte) : AgreeOutside (Loc8.elems x) s (s.writeLoc x v) := by
  cases x with
  | b => exact agreeOutside_setReg .b s v
  | c => exact agreeOutside_setReg .c s v
  | d => exact agreeOutside_setReg .d s v
  | e => exact agreeOutside_setReg .e s v
  | h => exact agreeOutside_setReg .h s v
  | l => exact agreeOutside_setReg .l s v
  | indHl => exact (agreeOutside_refl [] s).write s.hl v
  | a => exact agreeOutside_setReg .a s v

theorem agreeOutside_setPair (p : Pair) (s : State) (v : Word) : AgreeOutside (Pair.elems p) s (s.setPair p v) := by
  cases p <;> simp [AgreeOutside, Pair.elems, State.setPair]

theorem agreeOutside_setSp (s : State) (v : Word) : AgreeOutside [.sp] s (s.setSp v) :=
  agreeOutside_setPair .sp s v

theorem agreeOutside_memModeStep (m : MemMode) (s : State) :
    AgreeOutside (MemMode.elems m) s (s.memModeStep m) := by
  cases m with
  | bc => exact agreeOutside_refl [] s
  | de => exact agreeOutside_refl [] s
  | hli => exact agreeOutside_setPair .hl s (s.hl + 1)
  | hld => exact agreeOutside_setPair .hl s (s.hl - 1)

theorem agreeOutside_write_memModeStep (m : MemMode) (s : State) (addr : Word) (v : Byte) :
    AgreeOutside (MemMode.elems m) s ((s.write addr v).memModeStep m) :=
  agreeOutside_memModeStep m (s.write addr v)

theorem agreeOutside_setReg_memModeStep (m : MemMode) (s : State) (v : Byte) :
    AgreeOutside (.a :: MemMode.elems m) s ((s.setReg .a v).memModeStep m) := by
  cases m <;> simp [AgreeOutside, MemMode.elems, State.memModeStep, State.setPair]

theorem agreeOutside_push16 (s : State) (v : Word) : AgreeOutside [.sp] s (s.push16 v) := by
  rw [push16_eq]
  exact agreeOutside_setSp s (s.sp - 2)

theorem agreeOutside_dropStack (s : State) : AgreeOutside [.sp] s s.dropStack := by
  rw [dropStack_eq]
  exact agreeOutside_setSp s (s.sp + 2)

theorem agreeOutside_dropStack_setStkPair (p : StkPair) (s : State) (v : Word) :
    AgreeOutside (.sp :: StkPair.elems p) s (s.dropStack.setStkPair p v) := by
  rw [dropStack_eq]
  cases p <;> simp [AgreeOutside, StkPair.elems, State.setStkPair, State.setPair]

/-! ## The frame of each instruction -/

/-- The instruction completes, and writes no element of the frame but those named for it. -/
def WritesAsNamed (i : Instr) (s : State) : Prop :=
  ∃ t, exec i s = .next t ∧ AgreeOutside (writtenBy i s) s t

/-- An instruction known by its next state and by the elements the table gives it. -/
theorem writesAsNamed_of_exec {i : Instr} {s t : State} {ws : List Elem} (hws : writtenBy i s = ws)
    (hexec : exec i s = .next t) (h : AgreeOutside ws s t) : WritesAsNamed i s :=
  ⟨t, hexec, hws ▸ h⟩

/-- CP alone puts A back as it was. -/
theorem writesAsNamed_aluOf (op : AluOp) (src : AluSrc) (s : State) : WritesAsNamed (.aluOf op src) s := by
  have hset := agreeOutside_setReg .a s (aluResult op s.a (s.aluOperand src) s.f).1
  have hexec := exec_aluOf op src s
  cases op with
  | cp =>
    have hkeep : AgreeOutside [] s (s.setReg .a s.a) := agreeOutside_refl [] s
    exact writesAsNamed_of_exec (by rcases src with (_ | _) | _ | _ <;> rfl) hexec ((hkeep.setFlags _).advance _)
  | _ =>
    exact writesAsNamed_of_exec (by rcases src with (_ | _) | _ | _ <;> rfl) hexec ((hset.setFlags _).advance _)

theorem writesAsNamed_cbOf (op : CbOp) (s : State) : WritesAsNamed (.cbOf op) s := by
  cases op with
  | rot op x =>
    exact writesAsNamed_of_exec (by cases op <;> rfl) (exec_rotOf op x s)
      (((agreeOutside_writeLoc x s _).setFlags _).advance 2)
  | bit n x => exact writesAsNamed_of_exec rfl rfl (((agreeOutside_refl [] s).setFlags _).advance 2)
  | res n x => exact writesAsNamed_of_exec rfl rfl ((agreeOutside_writeLoc x s _).advance 2)
  | set n x => exact writesAsNamed_of_exec rfl rfl ((agreeOutside_writeLoc x s _).advance 2)

theorem writtenBy_cbOf (op : CbOp) (s : State) : writtenBy (.cbOf op) s = CbOp.elems op := by
  cases op with
  | rot op x => cases op <;> rfl
  | _ => rfl

theorem writesAsNamed_prefixCb (s : State) : WritesAsNamed .prefixCb s := by
  obtain ⟨t, hexec, h⟩ := writesAsNamed_cbOf (decodeCb s.imm8) s
  rw [writtenBy_cbOf] at h
  exact ⟨t, (exec_prefixCb s).trans hexec, h⟩

theorem writesAsNamed (i : Instr) (s : State) : WritesAsNamed i s := by
  have hnone := agreeOutside_refl [] s
  induction i using instr_families with
  | ld r r' =>
    exact writesAsNamed_of_exec (by cases r <;> cases r' <;> rfl) (exec_ldOf r r' s)
      ((agreeOutside_setReg r s _).advance 1)
  | ldIndHl r =>
    exact writesAsNamed_of_exec (by cases r <;> rfl) (exec_ldIndHlOf r s) ((agreeOutside_setReg r s _).advance 1)
  | stIndHl r =>
    exact writesAsNamed_of_exec (by cases r <;> rfl) (exec_stIndHlOf r s) ((hnone.write _ _).advance 1)
  | ldN8 r => exact writesAsNamed_of_exec (by cases r <;> rfl) (exec_ldN8Of r s) ((agreeOutside_setReg r s _).advance 2)
  | stMem m =>
    exact writesAsNamed_of_exec (by cases m <;> rfl) (exec_stMemOf m s)
      ((agreeOutside_write_memModeStep m s _ _).advance 1)
  | ldMem m =>
    exact writesAsNamed_of_exec (by cases m <;> rfl) (exec_ldMemOf m s)
      ((agreeOutside_setReg_memModeStep m s _).advance 1)
  | ldN16 p =>
    exact writesAsNamed_of_exec (by cases p <;> rfl) (exec_ldN16Of p s) ((agreeOutside_setPair p s _).advance 3)
  | incPair p =>
    exact writesAsNamed_of_exec (by cases p <;> rfl) (exec_incPairOf p s) ((agreeOutside_setPair p s _).advance 1)
  | decPair p =>
    exact writesAsNamed_of_exec (by cases p <;> rfl) (exec_decPairOf p s) ((agreeOutside_setPair p s _).advance 1)
  | addHl p =>
    exact writesAsNamed_of_exec (by cases p <;> rfl) (exec_addHlOf p s)
      (((agreeOutside_setPair .hl s _).setFlags _).advance 1)
  | push p =>
    exact writesAsNamed_of_exec (by cases p <;> rfl) (exec_pushOf p s) ((agreeOutside_push16 s _).advance 1)
  | pop p =>
    exact writesAsNamed_of_exec (by cases p <;> rfl) (exec_popOf p s)
      ((agreeOutside_dropStack_setStkPair p s _).advance 1)
  | jpCc cc =>
    refine writesAsNamed_of_exec (ws := []) (by cases cc <;> rfl) (exec_jpOf cc s) ?_
    split
    · exact hnone.setPc s.imm16
    · exact hnone.advance 3
  | jrCc cc =>
    refine writesAsNamed_of_exec (ws := []) (by cases cc <;> rfl) (exec_jrOf cc s) ?_
    split
    · exact hnone.setPc s.relativeTarget
    · exact hnone.advance 2
  | callCc cc =>
    refine writesAsNamed_of_exec (ws := [.sp]) (by cases cc <;> rfl) (exec_callOf cc s) ?_
    split
    · exact (agreeOutside_push16 s (s.pc + 3)).setPc s.imm16
    · exact (agreeOutside_refl [.sp] s).advance 3
  | retCc cc =>
    refine writesAsNamed_of_exec (ws := [.sp]) (by cases cc <;> rfl) (exec_retOf cc s) ?_
    split
    · exact (agreeOutside_dropStack s).setPc s.stackTop
    · exact (agreeOutside_refl [.sp] s).advance 1
  | rst t =>
    exact writesAsNamed_of_exec (by fin_cases t <;> rfl) (exec_rstOf t s) ((agreeOutside_push16 s _).setPc _)
  | inc x =>
    exact writesAsNamed_of_exec (by cases x <;> rfl) (exec_incOf x s)
      (((agreeOutside_writeLoc x s _).setFlags _).advance 1)
  | dec x =>
    exact writesAsNamed_of_exec (by cases x <;> rfl) (exec_decOf x s)
      (((agreeOutside_writeLoc x s _).setFlags _).advance 1)
  | alu op src => exact writesAsNamed_aluOf op src s
  | accRot op =>
    exact writesAsNamed_of_exec (by cases op <;> rfl) (exec_accRotOf op s)
      (((agreeOutside_setReg .a s _).setFlags _).advance 1)
  | rot op x => exact writesAsNamed_cbOf (.rot op x) s
  | bit n x => exact writesAsNamed_cbOf (.bit n x) s
  | res n x => exact writesAsNamed_cbOf (.res n x) s
  | set n x => exact writesAsNamed_cbOf (.set n x) s
  | noTableEntry op => exact writesAsNamed_of_exec (ws := [.status]) rfl rfl (by simp [AgreeOutside, raiseDecodeError_eq])
  | nop => exact writesAsNamed_of_exec rfl rfl (hnone.advance 1)
  | stop => exact writesAsNamed_of_exec (ws := [.status]) rfl (exec_stop s) (by simp [AgreeOutside])
  | halt => exact writesAsNamed_of_exec (ws := [.status]) rfl (exec_halt s) (by simp [AgreeOutside])
  | ldIndA16Sp => exact writesAsNamed_of_exec rfl rfl (((hnone.write _ _).write _ _).advance 3)
  | jrE8 => exact writesAsNamed_of_exec rfl rfl (hnone.setPc _)
  | daa | cpl => exact writesAsNamed_of_exec rfl rfl (((agreeOutside_setReg .a s _).setFlags _).advance 1)
  | scf | ccf => exact writesAsNamed_of_exec rfl rfl ((hnone.setFlags _).advance 1)
  | ldIndHlN8 => exact writesAsNamed_of_exec rfl rfl ((hnone.write _ _).advance 2)
  | jpA16 | jpHl => exact writesAsNamed_of_exec rfl rfl (hnone.setPc _)
  | ret => exact writesAsNamed_of_exec rfl rfl ((agreeOutside_dropStack s).setPc _)
  | callA16 => exact writesAsNamed_of_exec rfl rfl ((agreeOutside_push16 s _).setPc _)
  | reti =>
    exact writesAsNamed_of_exec (ws := [.sp, .ime]) rfl rfl
      (by simp [AgreeOutside, State.returnAndEnable, returnFromCall_eq])
  | ldhIndA8A | ldIndCA | ldIndA16A => exact writesAsNamed_of_exec rfl rfl ((hnone.write _ _).advance _)
  | ldhAIndA8 | ldAIndC | ldAIndA16 =>
    exact writesAsNamed_of_exec rfl rfl ((agreeOutside_setReg .a s _).advance _)
  | addSpE8 => exact writesAsNamed_of_exec rfl rfl (((agreeOutside_setPair .sp s _).setFlags _).advance 2)
  | ldHlSpE8 => exact writesAsNamed_of_exec rfl rfl (((agreeOutside_setPair .hl s _).setFlags _).advance 2)
  | ldSpHl => exact writesAsNamed_of_exec rfl rfl ((agreeOutside_setSp s _).advance 1)
  | di => exact writesAsNamed_of_exec (ws := [.ime, .ei]) rfl rfl (by simp [AgreeOutside])
  | ei => exact writesAsNamed_of_exec (ws := [.ei]) rfl rfl (by simp [AgreeOutside])
  | prefixCb => exact writesAsNamed_prefixCb s

/-- Settles O26, family by family. -/
theorem onlyTheNamedElementsAreWritten : Obligations.OnlyTheNamedElementsAreWritten := by
  intro i s t h
  obtain ⟨t', hexec, hframe⟩ := writesAsNamed i s
  cases h.symm.trans hexec
  exact hframe

end Sys2Proof.Machine
end

section
/-! PROOFS. O3, O5, O7 and O10: the cells, the canonical form of memory, reset and launch. -/

namespace Sys2Proof.Machine

/-! ## Registers and locations (10_state.md R31, R36; 00_scope.md R15) -/

/-- Settles O3: each name is its field, and a write is read back at its own name alone. -/
theorem registersAreIndependentCells : Obligations.RegistersAreIndependentCells :=
  ⟨reg_setReg, fun _ => ⟨rfl, rfl, rfl, rfl, rfl, rfl, rfl⟩, fun _ _ => ⟨rfl, rfl, rfl, rfl, rfl, rfl, rfl⟩,
    fun _ _ => ⟨rfl, rfl⟩, fun _ => ⟨rfl, rfl, rfl, rfl, rfl, rfl, rfl, rfl⟩,
    fun _ _ => ⟨rfl, rfl, rfl, rfl, rfl, rfl, rfl, rfl⟩⟩

/-! ## Memory, reset and launch (20_memory.md R60; 70_reset_and_hazards.md R400, R401) -/

/-- Settles O5: every number below 65536 is an address. -/
theorem equalBytesMeanEqualMemories : Obligations.EqualBytesMeanEqualMemories := by
  intro m m' hm hm' hread
  refine wfFrom_ext hm hm' fun addr hlt => ?_
  have haddr := hread (BitVec.ofNat 16 addr)
  rwa [BitVec.toNat_ofNat, Nat.mod_eq_of_lt hlt] at haddr

/-- Settles O7: reset lists nothing, so every byte is the unlisted one. -/
theorem resetStateIsCanonicalAndRunning : Obligations.ResetStateIsCanonicalAndRunning :=
  ⟨rfl, rfl, rfl, rfl, fun r => by cases r <;> rfl, rfl, rfl, rfl, rfl, rfl, rfl, fun _ => rfl⟩

theorem inv_create (cfg : Config) : Inv (State.create cfg) :=
  wf_ofInit cfg.initMem

theorem inv_loadSnapshot {s : State} (hs : Inv s) (snap : Snapshot) : Inv (s.loadSnapshot snap) := by
  rw [loadSnapshot_eq]
  exact wf_writeRam hs snap.ram

/-- Settles O10: a load writes the ram list over the memory it finds, and everything else but HALT_MODE afresh. -/
theorem launchTakesInitMemAndSnapshot : Obligations.LaunchTakesInitMemAndSnapshot := by
  refine ⟨fun cfg snap addr => ?_, fun cfg snap => ⟨inv_loadSnapshot (inv_create cfg) snap, rfl, ?_⟩,
    fun s t snap hmem hmode => ?_⟩
  · rw [State.launch, read_loadSnapshot (inv_create cfg), create_read]
  · rw [State.launch, loadSnapshot_eq, create_haltMode]
  · rw [loadSnapshot_eq, loadSnapshot_eq, writeRam_mem_congr hmem, hmode]

end Sys2Proof.Machine
end

section
/-! PROOFS. O38, O49, O54 and O60: what instructions and conventions do together. DAA's conditions after ADD or SUB of BCD
bytes are the decimal carries; the assembler's operand undoes the sum of JR; POP undoes PUSH; the row of 0xCB is the
second table. -/

namespace Sys2Proof.Machine

/-! ## DAA after a sum or difference of BCD numbers (40_alu8.md R131, R133, R141) -/

theorem bcd_toNat {n : Nat} (hn : n < 100) : (bcd n).toNat = n / 10 * 16 + n % 10 := by
  rw [bcd, BitVec.toNat_ofNat, Nat.mod_eq_of_lt (by omega)]

theorem bcd_units {n : Nat} (hn : n < 100) : (bcd n).toNat % 16 = n % 10 := by
  rw [bcd_toNat hn]
  omega

/-- DAA's low condition after a sum is the decimal carry out of the units. -/
theorem bcd_add_low {x y : Nat} (hx : x < 100) (hy : y < 100) :
    (bcd x).toNat % 16 + (bcd y).toNat % 16 > 15 ∨ ((bcd x).toNat + (bcd y).toNat) % 256 % 16 > 9 ↔
      10 ≤ x % 10 + y % 10 := by
  rw [Nat.mod_mod_of_dvd _ (by decide : 16 ∣ 256), Nat.add_mod, bcd_units hx, bcd_units hy]
  omega

/-- DAA's high condition after a sum is the decimal carry out of the tens. -/
theorem bcd_add_high {x y : Nat} (hx : x < 100) (hy : y < 100) :
    (bcd x).toNat + (bcd y).toNat > 255 ∨ ((bcd x).toNat + (bcd y).toNat) % 256 > 0x99 ↔ 100 ≤ x + y := by
  have hcarry : ∀ n : Nat, n > 255 ∨ n % 256 > 0x99 ↔ n > 0x99 := by omega
  rw [hcarry, bcd_toNat hx, bcd_toNat hy]
  omega

theorem bcd_lt_bcd {x y : Nat} (hx : x < 100) (hy : y < 100) : (bcd x).toNat < (bcd y).toNat ↔ x < y := by
  rw [bcd_toNat hx, bcd_toNat hy]
  omega

/-- The sum of two BCD bytes, adjusted. -/
theorem daaResult_addBytes_bcd {x y : Nat} (hx : x < 100) (hy : y < 100) :
    (daaResult (addBytes (bcd x) (bcd y) 0).1 (addBytes (bcd x) (bcd y) 0).2).1 = bcd ((x + y) % 100) ∧
    (daaResult (addBytes (bcd x) (bcd y) 0).1 (addBytes (bcd x) (bcd y) 0).2).2.c = decide (100 ≤ x + y) := by
  rw [addBytes_eq, daaResult_of_add _ rfl]
  simp only [Nat.add_zero, BitVec.toNat_ofNat, Nat.reducePow, decide_eq_true_eq, bcd_add_low hx hy,
    bcd_add_high hx hy, and_true]
  apply BitVec.eq_of_toNat_eq
  rw [BitVec.toNat_ofNat, Nat.add_assoc, Nat.mod_add_mod, bcd_toNat hx, bcd_toNat hy,
    bcd_toNat (Nat.mod_lt _ (by decide))]
  split_ifs <;> omega

/-- The difference of two BCD bytes, adjusted: DAA's conditions are the decimal borrows. -/
theorem daaResult_subBytes_bcd {x y : Nat} (hx : x < 100) (hy : y < 100) :
    (daaResult (subBytes (bcd x) (bcd y) 0).1 (subBytes (bcd x) (bcd y) 0).2).1 = bcd ((x + 100 - y) % 100) ∧
    (daaResult (subBytes (bcd x) (bcd y) 0).1 (subBytes (bcd x) (bcd y) 0).2).2.c = decide (x < y) := by
  rw [subBytes_eq, daaResult_of_sub _ rfl]
  simp only [Nat.add_zero, BitVec.toNat_ofInt, decide_eq_true_eq, bcd_units hx, bcd_units hy, bcd_lt_bcd hx hy,
    and_true]
  apply BitVec.eq_of_toNat_eq
  rw [BitVec.toNat_ofInt, bcd_toNat hx, bcd_toNat hy, bcd_toNat (Nat.mod_lt _ (by decide))]
  split_ifs <;> omega

/-- Settles O38: DAA corrects what ADD or SUB of the two BCD bytes left in A and F. -/
theorem daaCorrectsBcdSumsAndDifferences : Obligations.DaaCorrectsBcdSumsAndDifferences := by
  intro x y src s ha hv
  have hadd : aluResult .add s.a (operandValue src s) s.f = addBytes (bcd x) (bcd y) 0 := by rw [ha, hv]; rfl
  have hsub : aluResult .sub s.a (operandValue src s) s.f = subBytes (bcd x) (bcd y) 0 := by rw [ha, hv]; rfl
  exact ⟨⟨_, _, exec_aluOf_of_aluResult .add src s hadd, exec_daa _, daaResult_addBytes_bcd x.isLt y.isLt⟩,
    ⟨_, _, exec_aluOf_of_aluResult .sub src s hsub, exec_daa _, daaResult_subBytes_bcd x.isLt y.isLt⟩⟩

/-! ## JR to a target (30_encoding.md R110; 44_control.md R244, R245) -/

/-- A distance in reach of a signed byte is its low byte, sign-extended. -/
theorem sext16_lowByte {d : Word} (hlow : -128 ≤ d.toInt) (hhigh : d.toInt ≤ 127) : sext16 (lowByte d) = d := by
  apply BitVec.eq_of_toNat_eq
  rw [BitVec.toInt_eq_toNat_cond] at hlow hhigh
  rw [sext16_eq, BitVec.toNat_ofNat, lowByte_toNat]
  have := d.isLt
  split_ifs at * <;> omega

theorem relativeTarget_of_jrOperand {s : State} {target : Word} (hreach : jrReaches s.pc target = true)
    (hoperand : s.read (s.pc + 1) = jrOperand s.pc target) : s.relativeTarget = target := by
  rw [jrReaches, Bool.and_eq_true, decide_eq_true_iff, decide_eq_true_iff] at hreach
  obtain ⟨hlow, hhigh⟩ := hreach
  rw [State.relativeTarget, State.immE8, State.imm8, hoperand, jrOperand, sext16_lowByte hlow hhigh, add_sub_cancel]

/-- Settles O49: the target of a JR is the one its operand was made for. -/
theorem jrToATargetInReachGoesThere : Obligations.JrToATargetInReachGoesThere := by
  intro s target hreach hoperand
  have htarget := relativeTarget_of_jrOperand hreach hoperand
  refine ⟨congrArg (fun v => Host.Outcome.next (s.setPc v)) htarget, fun cc htaken => ?_⟩
  rw [exec_jrOf, jumpRelativeIf_eq, if_pos htaken, htarget]

/-! ## POP after PUSH (44_control.md R252 to R255) -/

/-- A stack pair written with its own value reads as before; of F nothing is lost, since its low nibble is zero. -/
theorem stkPair_setStkPair (p : StkPair) (s t : State) :
    (t.setStkPair p (s.stkPair p)).stkPair p = s.stkPair p := by
  cases p with
  | af => simp [State.setStkPair, State.stkPair, byteToFlags_flagsToByte]
  | _ => simp [State.setStkPair, State.setPair, State.stkPair, State.pair]

theorem stkPair_advance (p : StkPair) (s : State) (n : Word) : (s.advance n).stkPair p = s.stkPair p := by
  cases p <;> rfl

theorem stackTop_advance (s : State) (n : Word) : (s.advance n).stackTop = s.stackTop := rfl

theorem read_dropStack (s : State) (addr : Word) : s.dropStack.read addr = s.read addr := rfl

/-- The two bytes of a push, read from a canonical memory. -/
theorem read_push16 {s : State} (hs : Inv s) (v : Word) :
    (s.push16 v).read (s.sp - 1) = highByte v ∧ (s.push16 v).read (s.sp - 2) = lowByte v := by
  have hne : s.sp - 1 ≠ s.sp - 2 := by bv_omega
  have hread (addr : Word) : (s.push16 v).read addr =
      ((s.write (s.sp - 1) (highByte v)).write (s.sp - 2) (lowByte v)).read addr := by
    rw [push16_eq]
    rfl
  rw [hread, hread, read_write (wf_write_mem hs _ _), read_write (wf_write_mem hs _ _), if_neg hne, if_pos rfl,
    read_write hs, if_pos rfl]
  exact ⟨rfl, rfl⟩

theorem push16_sp (s : State) (v : Word) : (s.push16 v).sp = s.sp - 2 := by
  rw [push16_eq]
  rfl

/-- The word pushed is on top of the stack. -/
theorem stackTop_push16 {s : State} (hs : Inv s) (v : Word) : (s.push16 v).stackTop = v := by
  obtain ⟨hhigh, hlow⟩ := read_push16 hs v
  have hnext : s.sp - 2 + 1 = s.sp - 1 := by bv_omega
  rw [stackTop_eq, push16_sp, hnext, hhigh, hlow, concatBytes_high_low]

/-- Settles O54: the pop reads the two bytes of the push, and SP is back where it was. -/
theorem pushThenPopRestoresPairAndSp : Obligations.PushThenPopRestoresPairAndSp := by
  intro p s hs
  have hpush : exec (.pushOf p) s = .next ((s.push16 (s.stkPair p)).advance 1) := exec_pushOf p s
  have hpop := exec_popOf p ((s.push16 (s.stkPair p)).advance 1)
  rw [popPair, stackTop_advance, stackTop_push16 hs] at hpop
  refine ⟨_, _, hpush, hpop, ?pair, ?sp, ?bytes⟩
  case pair => rw [stkPair_advance, stkPair_setStkPair]
  case sp =>
    rw [advance_sp, setStkPair_sp, dropStack_eq, advance_sp, push16_sp]
    exact BitVec.sub_add_cancel s.sp 2
  case bytes =>
    simp only [read_advance, read_setStkPair, read_dropStack]
    exact read_push16 hs (s.stkPair p)

/-! ## The row of 0xCB (30_encoding.md R90, R105) -/

/-- Settles O60: the byte 0xCB is executed through the second table. -/
theorem prefixDispatchesThroughTheCbTable : Obligations.PrefixDispatchesThroughTheCbTable :=
  ⟨exec_prefixCb, fun _ => rfl, exec_completes .prefixCb⟩

end Sys2Proof.Machine
end
